-- ==== Sys2Proof/Word.lean ====
section
/-! DEFINITION. The word types of the Orvith 2A61: a byte of a link, and a value of the
microsecond time base. -/

namespace Sys2Proof

/-- One byte of a frame: its eight data bits (09 §9.1; the marker bit is not one of them). -/
abbrev Byte := BitVec 8

/-- A value of the 32-bit microsecond time base; differences are taken modulo 2^32 (R108). -/
abbrev Time := BitVec 32

end Sys2Proof
end

