-- ==== Sys2Proof/Syntax.lean ====
section
/-! DEFINITION. The syntax of what reaches the allocator: the four links, the two axles, frames and
their kinds, and the commands: one constructor of `Instr` per row of spec/opcode_table.json. -/

namespace Sys2Proof

/-- The four links, named by the master at their far end (00, "The four masters"). -/
inductive Link where
  | vsc | fdi | rdi | sbc
deriving DecidableEq, Repr

/-- The two axles. -/
inductive Axle where
  | front | rear
deriving DecidableEq, Repr

/-- The two quadrature lines of an axle sensor (R75). -/
inductive Phase where
  | a | b
deriving DecidableEq, Repr

/-- The kinds of frame a master sends to the allocator (R152). -/
inductive Kind where
  | demand | envelope | reference
  | limitPost | limitWithdraw | limitList
  | mapStage | mapCommit | mapFlush | mapRead | mapProbe
  | configWrite | configRead
  | allocEnable | allocDisable
  | statusQuery
deriving DecidableEq, Repr

/-- A frame: its kind code and sequence tag (the header byte) and its payload (09 §9.1).
The length byte and the check byte follow from these (R150). -/
structure Frame where
  kind    : BitVec 6
  tag     : BitVec 2
  payload : List Byte
deriving DecidableEq, Repr

/-- The commands of the block, one constructor per row of spec/opcode_table.json.
The operands are what the outside alone decides: which line, which link, which byte.
A request or input frame has no operands: it stands in a receive queue and the arbiter
chooses it (R153, R154; log 9). -/
inductive Instr where
  /-- RESET (R123): power-on, or RESET_N goes low. -/
  | reset
  /-- RESET_BREAK_END (R174): the 33 µs of a link's reset break are over. -/
  | resetBreakEnd (link : Link)
  /-- SYNC_IN_EDGE (R110): SYNC_IN rises (`true`) or falls (`false`). -/
  | syncInEdge (rising : Bool)
  /-- ONE_SHOT_EXPIRY (R112). -/
  | oneShotExpiry
  /-- INTERNAL_TIMER_EXPIRY (R115). -/
  | internalTimerExpiry
  /-- PASS_COMPLETION (R29). -/
  | passCompletion
  /-- TOFF_N_PIN_CHANGE (R130): the pin goes to this level. -/
  | toffNPinChange (high : Bool)
  /-- TOFF_N_FALLING (R131): the filtered level falls. -/
  | toffNFalling
  /-- TOFF_N_RISING (R132): the filtered level rises. -/
  | toffNRising
  /-- COUNTED_EDGE (R75): exactly one line of an axle's sensor changes. -/
  | countedEdge (axle : Axle) (phase : Phase)
  /-- PHASE_ERROR (R76): both lines of an axle's sensor change in one step. -/
  | phaseError (axle : Axle)
  /-- EDGE_HISTORY_EXPIRY (R77). -/
  | edgeHistoryExpiry (axle : Axle)
  /-- Z_RISING_EDGE (R83). -/
  | zRisingEdge (axle : Axle)
  /-- BYTE_TAKEN (R166): a byte with its data bits, its marker bit, and whether it has a stop-bit error. -/
  | byteTaken (link : Link) (data : Byte) (marker : Bool) (stopError : Bool)
  /-- GAP_EXPIRY (R169). -/
  | gapExpiry (link : Link)
  /-- BREAK (R172): a break is recognised on a receive line. -/
  | linkBreak (link : Link)
  /-- FRAME_TRANSMIT_END (R173). -/
  | frameTransmitEnd (link : Link)
  /-- BAD_KIND_FRAME (R157): the frame served is of no master-to-allocator kind. -/
  | badKindFrame
  /-- DEMAND (R95). -/
  | demand
  /-- ENVELOPE (R96). -/
  | envelope
  /-- REFERENCE (R97). -/
  | reference
  /-- LIMIT_POST (R58). -/
  | limitPost
  /-- LIMIT_WITHDRAW (R65). -/
  | limitWithdraw
  /-- LIMIT_LIST (R67). -/
  | limitList
  /-- MAP_STAGE (R40). -/
  | mapStage
  /-- MAP_COMMIT (R43). -/
  | mapCommit
  /-- MAP_FLUSH (R50). -/
  | mapFlush
  /-- MAP_READ (R51). -/
  | mapRead
  /-- MAP_PROBE (R52). -/
  | mapProbe
  /-- CONFIG_WRITE (R136). -/
  | configWrite
  /-- CONFIG_READ (R139). -/
  | configRead
  /-- ALLOC_ENABLE (R126). -/
  | allocEnable
  /-- ALLOC_DISABLE (R127). -/
  | allocDisable
  /-- STATUS_QUERY (R149). -/
  | statusQuery
  /-- START_BIT_CONFIRMED (R169). -/
  | startBitConfirmed (link : Link)
  /-- RESET_END (R174): RESET_N returns high. -/
  | resetEnd
deriving DecidableEq, Repr

end Sys2Proof
end

