-- ==== Sys2Proof/WellFormed.lean ====
section
/-! DEFINITION. What makes a frame well formed. The operands of `Instr` are drawn from closed types, so
every term of `Instr` is a command the part can meet; what can be ill formed is a frame. -/

namespace Sys2Proof

/-- A payload holds 0 to 16 bytes (09 §9.1). -/
abbrev Frame.WellFormed (f : Frame) : Prop := f.payload.length ≤ 16

end Sys2Proof
end

