-- ==== Sys2Proof/Decode.lean ====
section
/-! DEFINITION. What bits spell. No row of spec/opcode_table.json gives any bits (every "fields" is
empty), so no word spells a command (log 20). What the spec does lay out in bits is the frame of a
link: its bytes (R150) and the codes of its kind (R152). -/

namespace Sys2Proof

/-- The command a word spells by the table's bits: none, since the table gives no row bits. -/
def decodeTableWord (_nbits _w : Nat) : Option Instr := none

/-- The sum of a frame's bytes modulo 256 (R150). -/
def byteSum (bs : List Byte) : Byte := bs.foldr (· + ·) 0

/-- The bytes of one frame, header first, pass the test of R150: a length byte of 16 or less, that
many payload bytes, one check byte, and a sum of 0 modulo 256. -/
abbrev GoodBytes (bs : List Byte) : Prop :=
  2 ≤ bs.length ∧ (bs.getD 1 0).toNat ≤ 16 ∧ bs.length = (bs.getD 1 0).toNat + 3 ∧ byteSum bs = 0

/-- The kind codes of the frames a master sends (R152). -/
def Kind.code : Kind → BitVec 6
  | .demand        => 0x01
  | .envelope      => 0x02
  | .reference     => 0x03
  | .limitPost     => 0x08
  | .limitWithdraw => 0x09
  | .limitList     => 0x0A
  | .mapStage      => 0x10
  | .mapCommit     => 0x11
  | .mapFlush      => 0x12
  | .mapRead       => 0x13
  | .mapProbe      => 0x14
  | .configWrite   => 0x18
  | .configRead    => 0x19
  | .allocEnable   => 0x1C
  | .allocDisable  => 0x1D
  | .statusQuery   => 0x1E

/-- Every kind a master sends, in the order of R152's table. -/
def Kind.all : List Kind :=
  [.demand, .envelope, .reference, .limitPost, .limitWithdraw, .limitList, .mapStage, .mapCommit,
   .mapFlush, .mapRead, .mapProbe, .configWrite, .configRead, .allocEnable, .allocDisable, .statusQuery]

/-- The master-to-allocator kind of a code; none for a code absent from R152's table and for the
allocator's own kinds. -/
def Kind.ofCode (c : BitVec 6) : Option Kind := Kind.all.find? (fun k => k.code == c)

/-- RESPONSE, 0x20 (R152). -/
def Frame.responseCode : BitVec 6 := 0x20
/-- AXLE_COMMAND, 0x21 (R152). -/
def Frame.axleCommandCode : BitVec 6 := 0x21
/-- SLIP_REPORT, 0x22 (R152). -/
def Frame.slipReportCode : BitVec 6 := 0x22
/-- STATUS_REPORT, 0x23 (R152). -/
def Frame.statusReportCode : BitVec 6 := 0x23

/-- The header byte: bits 0 to 5 the kind code, bits 6 and 7 the sequence tag (09 §9.1). -/
def Frame.header (f : Frame) : Byte := (f.tag ++ f.kind : BitVec (2 + 6))

/-- The length byte: the number of payload bytes (09 §9.1). -/
def Frame.lengthByte (f : Frame) : Byte := BitVec.ofNat 8 f.payload.length

/-- The check byte: the sum of all bytes becomes 0 modulo 256 (R150). -/
def Frame.check (f : Frame) : Byte := -(byteSum (f.header :: f.lengthByte :: f.payload))

/-- The bytes of a frame, in the order they are sent (R150). -/
def Frame.bytes (f : Frame) : List Byte := f.header :: f.lengthByte :: (f.payload ++ [f.check])

/-- The frame that bytes spell, header first; none for bytes that fail the test of R150. -/
def Frame.ofBytes (bs : List Byte) : Option Frame :=
  if GoodBytes bs then
    some { kind := (bs.getD 0 0).extractLsb' 0 6
           tag := (bs.getD 0 0).extractLsb' 6 2
           payload := (bs.drop 2).dropLast }
  else none

end Sys2Proof
end

