-- ==== Sys2Proof/Config.lean ====
section
/-! DEFINITION. The names of the 23 configuration parameters (R134), and the free values: what the
spec leaves open is a constant without a body, so that nothing can be proved of its value. -/

namespace Sys2Proof

/-- The configuration parameters in the order of R134's table. -/
inductive Param where
  | defaultShare | defaultSlipTarget | defaultSlipGain | defaultTransferCap
  | rateLimit | shareSlew | reversalHold | demandDecay
  | demandStale | envelopeStale | referenceStale
  | syncEdge | syncDivider | syncTimeout | internalPeriod
  | cprFront | cprRear | indexTolerance | indexUse
  | ratioFront | ratioRear | speedFloor | statusInterval
deriving DecidableEq, Repr

/-- FREE VALUE (log 4): how many clock periods a pass takes. R2 says only that completion comes no
later than 40 µs after the boundary; the pass takes the smaller of this value and 1600. -/
opaque Config.passLatency : Nat → Nat

/-- FREE VALUE (log 3): where an event that falls due at a tick stands among the others that fall
due at the same tick. The spec lets either of two such events be taken first. -/
opaque Config.racePlace : Nat → Nat

end Sys2Proof
end

