-- ==== Sys2Proof/Machine/Blocks.lean ====
section
/-! DEFINITION. The types of the state of each block, as the block's own table in spec/ lists it. -/

namespace Sys2Proof.Machine

/-- One value for each axle (suffixes f and r of 00 "Names"). -/
structure PerAxle (α : Type) where
  front : α
  rear  : α
deriving DecidableEq, Repr

/-- One value for each link (00, "The four masters"). -/
structure PerLink (α : Type) where
  vsc : α
  fdi : α
  rdi : α
  sbc : α
deriving DecidableEq, Repr

/-! ### Pins -/

/-- The levels of the three lines of an axle sensor (00, "Pin summary"). -/
structure SensorPins where
  a : Bool
  b : Bool
  z : Bool
deriving DecidableEq, Repr

/-- The levels on the input pins, `true` for high (00, "Pin summary"). -/
structure Pins where
  resetN : Bool
  toffN  : Bool
  syncIn : Bool
  sensor : PerAxle SensorPins
  rxd    : PerLink Bool
deriving DecidableEq, Repr

/-! ### Period Timer (R109) -/

/-- The sync mode (R109). -/
inductive SyncMode where
  | synced | internal
deriving DecidableEq, Repr

/-- The edge selection in use (R109). -/
inductive EdgeSelect where
  | rising | falling | both
deriving DecidableEq, Repr

/-- The state of the Period Timer (R109). -/
structure Ptm where
  mode          : SyncMode
  select        : EdgeSelect
  divider       : Nat
  dividerCount  : Nat
  lastQualified : Option Time
  /-- The expiry time, when the one-shot is running. -/
  oneShot       : Option Time
  reacquire     : Nat
  /-- The time of the next boundary, when the internal timer is running. -/
  timer         : Option Time
  lastBoundary  : Time
  periodCount   : BitVec 16
  skipped       : Bool
  /-- The resolved level of SYNC_IN (R123). -/
  level         : Bool
deriving DecidableEq, Repr

/-! ### Axle Speed Unit (R74) -/

/-- The direction of a counted edge (R75). -/
inductive Direction where
  | forward | reverse
deriving DecidableEq, Repr

/-- Sensor health (R74). -/
inductive Health where
  | good | suspect | fault
deriving DecidableEq, Repr

/-- The speed state of a latched result (R74). -/
inductive SpeedState where
  | sensor | substitute | invalid
deriving DecidableEq, Repr

/-- An entry of the edge history (R77). -/
structure EdgeEntry where
  time : Time
  dir  : Direction
deriving DecidableEq, Repr

/-- The latched speed result (R74, R88). -/
structure Latched where
  speed  : Int
  state  : SpeedState
  health : Health
deriving DecidableEq, Repr

/-- The state of one Axle Speed Unit (R74). -/
structure Asu where
  levelA       : Bool
  levelB       : Bool
  /-- The resolved level of Z (R93). -/
  levelZ       : Bool
  lastDir      : Option Direction
  windowCount  : Int
  windowStart  : Time
  phaseError   : Bool
  /-- Newest first. -/
  history      : List EdgeEntry
  sinceIndex   : Int
  dirChanged   : Bool
  armed        : Bool
  faultCount   : Nat
  goodRun      : Nat
  health       : Health
  latched      : Latched
deriving DecidableEq, Repr

/-! ### Input Image (R94 to R97, R99) -/

/-- The demand record's fields (R95). -/
structure DemandRec where
  demand  : Int
  mode    : Fin 8
  trailer : Bool
  mass    : Nat
  grade   : Int
deriving DecidableEq, Repr

/-- An envelope record's fields (R96). -/
structure EnvelopeRec where
  drive      : Nat
  regen      : Nat
  motorSpeed : Int
  ready      : Bool
deriving DecidableEq, Repr

/-- The reference record's fields (R97). -/
structure ReferenceRec where
  magnitude : Nat
  direction : Direction
  valid     : Bool
deriving DecidableEq, Repr

/-- A record of the image with its age in passes (R94). -/
structure Aged (α : Type) where
  fields : α
  age    : Nat
deriving DecidableEq, Repr

/-- A record of the pass's copy: fields, age and the marking fresh or stale (R101, R102). -/
structure Marked (α : Type) where
  fields : α
  age    : Nat
  fresh  : Bool
deriving DecidableEq, Repr

/-- The Input Image (R94, R99). -/
structure Image where
  demand       : Aged DemandRec
  envelope     : PerAxle (Aged EnvelopeRec)
  reference    : Aged ReferenceRec
  inputClamped : Bool
deriving DecidableEq, Repr

/-- The copy of the image that a pass works on (R101). -/
structure ImageCopy where
  demand    : Marked DemandRec
  envelope  : PerAxle (Marked EnvelopeRec)
  reference : Marked ReferenceRec
deriving DecidableEq, Repr

/-! ### Split Map (R31 to R34, R39, R41) -/

/-- A key field: a band 0 to 7, or ANY (R32). -/
inductive KeyField where
  | band (n : Fin 8)
  | any
deriving DecidableEq, Repr

/-- The three key fields of an entry (R33). -/
structure EntryKey where
  load  : KeyField
  grade : KeyField
  speed : KeyField
deriving DecidableEq, Repr

/-- The four policy values (R32, R10). -/
structure Policy where
  share       : Nat
  slipTarget  : Nat
  gain        : Nat
  transferCap : Nat
deriving DecidableEq, Repr

/-- The seven content fields of an entry (R32). -/
structure Content where
  key    : EntryKey
  policy : Policy
deriving DecidableEq, Repr

/-- An entry (R32). -/
structure Entry where
  valid   : Bool
  content : Content
deriving DecidableEq, Repr

/-- A set: four ways and their LRU order, most recently used first (R31, R34). -/
structure MapSet where
  ways : Vector Entry 4
  lru  : List (Fin 4)
deriving DecidableEq, Repr

/-- The way choice of a commit (R41). -/
inductive WayChoice where
  | way (n : Fin 4)
  | auto
deriving DecidableEq, Repr

/-- The pending slot (R41). -/
inductive MapOp where
  | empty
  | write (content : Content) (set : Fin 16) (choice : WayChoice)
  | flush
deriving DecidableEq, Repr

/-- The Split Map: array, staging buffer and pending slot (R31, R39, R41). -/
structure SplitMap where
  sets   : Vector MapSet 16
  stage  : Content
  staged : Bool
  slot   : MapOp
deriving DecidableEq, Repr

/-- A lookup key: the set and three bands (R9, R35). -/
structure MapKey where
  set   : Fin 16
  load  : Fin 8
  grade : Fin 8
  speed : Fin 8
deriving DecidableEq, Repr

/-- The map result of a pass (R4, R10). -/
structure MapResult where
  hit : Bool
  set : Fin 16
  way : Fin 4
deriving DecidableEq, Repr

/-! ### Limit Table (R55) -/

/-- The axle field of a limit (R55). -/
inductive LimitAxle where
  | front | rear | both
deriving DecidableEq, Repr

/-- The kind of a limit (R55). -/
inductive LimitKind where
  | driveCeil | regenCeil | rateCeil | noTransfer
deriving DecidableEq, Repr

/-- A record of the Limit Table (R55). -/
structure Limit where
  owner     : Link
  tag       : Nat
  axle      : LimitAxle
  kind      : LimitKind
  value     : Nat
  lifetime  : Nat
  remaining : Nat
deriving DecidableEq, Repr

/-! ### Allocator Control (R124, R134, R135) -/

/-- The allocator state (R124). -/
inductive AllocState where
  | standby | run | rampdown | forcedOff
deriving DecidableEq, Repr

/-- A set of configuration values, one per parameter, by index (R134). -/
structure ConfigSet where
  vals : Vector Nat 23
deriving DecidableEq, Repr

/-- The state of Allocator Control (R124, R130). -/
structure Act where
  state       : AllocState
  /-- The filtered TOFF_N level. -/
  filtered    : Bool
  /-- The pin's resolved level. -/
  pinLevel    : Bool
  /-- How many clock periods the pin has held that level, up to the filter's 5 µs. -/
  held        : Nat
  active      : ConfigSet
  /-- The pending values; `none` where the pending flag is clear. -/
  pendingVals : Vector (Option Nat) 23
deriving DecidableEq, Repr

/-! ### Allocation Engine (R3, R4) -/

/-- An axle's last sign (R3). -/
inductive LastSign where
  | positive | negative | none
deriving DecidableEq, Repr

/-- The carried state of one axle (R3). -/
structure AxleCarry where
  lastSign    : LastSign
  holdActive  : Bool
  holdCounter : Nat
deriving DecidableEq, Repr

/-- The state ALE carries from one pass to the next (R3). -/
structure Carried where
  demand : Int
  share  : Nat
  axle   : PerAxle AxleCarry
deriving DecidableEq, Repr

/-- The per-axle flags of the published record (R4). -/
structure AxleFlags where
  slipCut  : Bool
  bound    : Bool
  hold     : Bool
  envStale : Bool
deriving DecidableEq, Repr

/-- The published record (R4). -/
structure Published where
  torque      : PerAxle Int
  shortfall   : Int
  demand      : Int
  share       : Nat
  slip        : PerAxle Int
  flags       : PerAxle AxleFlags
  noRef       : Bool
  refStale    : Bool
  demandStale : Bool
  mapMiss     : Bool
  mapResult   : MapResult
deriving DecidableEq, Repr

/-- What a pass took at its start and works on to its completion (R1). -/
structure PassCopy where
  config     : ConfigSet
  allocState : AllocState
  policy     : Policy
  mapResult  : MapResult
  image      : ImageCopy
  limits     : List Limit
  latched    : PerAxle Latched
  /-- The carried state the stages start from (R3; log 12). -/
  carried    : Carried
  /-- The previous outputs, T_prev (R4; log 12). -/
  prev       : PerAxle Int
deriving DecidableEq, Repr

/-- A pass in flight (R2). -/
structure Pass where
  copy      : PassCopy
  /-- A falling of TOFF_N was taken while the pass was in flight (R28). -/
  toffTaken : Bool
  /-- Clock periods since the boundary. -/
  clocks    : Nat
  /-- The clock period the completion falls due at, up to 40 µs (R2; a free value, log 4). -/
  latency   : Nat
deriving DecidableEq, Repr

/-- The Allocation Engine (R3, R4). -/
structure Ale where
  carried   : Carried
  published : Published
  pass      : Option Pass
deriving DecidableEq, Repr

/-! ### Link Interface Unit (R165) -/

/-- The framer state (R165). -/
inductive Framer where
  | hunt | inFrame | overrun
deriving DecidableEq, Repr

/-- The transmitter and the frame in transmission (R165). `clocks` is how long it has been at it. -/
inductive Transmitter where
  | idle
  | sending (frame : Frame) (clocks : Nat)
  | resetBreak (clocks : Nat)
deriving DecidableEq, Repr

/-- The bit receiver (R164, R166). `clocks` counts from the falling edge of the start bit; `low`,
while the line is low, from the falling edge that began the low level. -/
inductive Receiver where
  /-- Waiting for a falling edge; the line is high. -/
  | waiting
  /-- A candidate start bit. -/
  | candidate (clocks : Nat) (low : Option Nat)
  /-- Inside a byte; the samples taken so far, oldest first. -/
  | inByte (clocks : Nat) (low : Option Nat) (samples : List Bool)
  /-- The stop-bit sample was low: a byte with a stop-bit error, or a break. -/
  | stopLow (low : Nat) (samples : List Bool)
  /-- Waiting for the line to go high, examining no edge. -/
  | awaitHigh
deriving DecidableEq, Repr

/-- The state of one Link Interface Unit (R165). -/
structure Liu where
  framer    : Framer
  /-- The bytes of the frame in assembly, oldest first. -/
  assembly  : List Byte
  /-- The gap timer: clock periods since the last byte taken, when it is running. -/
  gap       : Option Nat
  rxQueue   : List Frame
  badCount  : Nat
  faulted   : Bool
  linkEvent : Bool
  txQueue   : List Frame
  tx        : Transmitter
  receiver  : Receiver
deriving DecidableEq, Repr

end Sys2Proof.Machine
end

