-- ==== Sys2Proof/Machine/Params.lean ====
section
/-! DEFINITION. The table of R134: each configuration parameter's index, range and reset value; and
the lengths of time of the spec in periods of CLK_IN. -/

namespace Sys2Proof

/-- The index CONFIG_WRITE and CONFIG_READ carry (R134). -/
def Param.index : Param → Fin 23
  | .defaultShare       => 0
  | .defaultSlipTarget  => 1
  | .defaultSlipGain    => 2
  | .defaultTransferCap => 3
  | .rateLimit          => 4
  | .shareSlew          => 5
  | .reversalHold       => 6
  | .demandDecay        => 7
  | .demandStale        => 8
  | .envelopeStale      => 9
  | .referenceStale     => 10
  | .syncEdge           => 11
  | .syncDivider        => 12
  | .syncTimeout        => 13
  | .internalPeriod     => 14
  | .cprFront           => 15
  | .cprRear            => 16
  | .indexTolerance     => 17
  | .indexUse           => 18
  | .ratioFront         => 19
  | .ratioRear          => 20
  | .speedFloor         => 21
  | .statusInterval     => 22

/-- Every parameter, by index (R134). -/
def Param.all : List Param :=
  [.defaultShare, .defaultSlipTarget, .defaultSlipGain, .defaultTransferCap, .rateLimit, .shareSlew,
   .reversalHold, .demandDecay, .demandStale, .envelopeStale, .referenceStale, .syncEdge, .syncDivider,
   .syncTimeout, .internalPeriod, .cprFront, .cprRear, .indexTolerance, .indexUse, .ratioFront,
   .ratioRear, .speedFloor, .statusInterval]

/-- The parameter of an index; none above 22 (R136, R139). -/
def Param.ofIndex (n : Nat) : Option Param := Param.all[n]?

/-- The lower limit of the range (R134). -/
def Param.low : Param → Nat
  | .defaultShare | .defaultSlipTarget | .defaultSlipGain | .defaultTransferCap => 0
  | .rateLimit => 10
  | .shareSlew => 1
  | .reversalHold => 0
  | .demandDecay => 10
  | .demandStale | .envelopeStale | .referenceStale => 1
  | .syncEdge => 0
  | .syncDivider => 1
  | .syncTimeout => 100
  | .internalPeriod => 250
  | .cprFront | .cprRear => 8
  | .indexTolerance | .indexUse => 0
  | .ratioFront | .ratioRear => 1000
  | .speedFloor => 4
  | .statusInterval => 1

/-- The upper limit of the range (R134). -/
def Param.high : Param → Nat
  | .defaultShare => 1000
  | .defaultSlipTarget => 250
  | .defaultSlipGain => 255
  | .defaultTransferCap => 16000
  | .rateLimit => 4000
  | .shareSlew => 1000
  | .reversalHold => 15
  | .demandDecay => 4000
  | .demandStale | .envelopeStale | .referenceStale => 50
  | .syncEdge => 2
  | .syncDivider => 16
  | .syncTimeout | .internalPeriod => 20000
  | .cprFront | .cprRear => 4096
  | .indexTolerance => 8
  | .indexUse => 3
  | .ratioFront | .ratioRear => 20000
  | .speedFloor => 4000
  | .statusInterval => 16

/-- The value after reset (R134). -/
def Param.reset : Param → Nat
  | .defaultShare => 400
  | .defaultSlipTarget => 80
  | .defaultSlipGain => 20
  | .defaultTransferCap => 3000
  | .rateLimit => 400
  | .shareSlew => 10
  | .reversalHold => 3
  | .demandDecay => 200
  | .demandStale => 4
  | .envelopeStale | .referenceStale => 3
  | .syncEdge => 0
  | .syncDivider => 8
  | .syncTimeout => 2000
  | .internalPeriod => 1000
  | .cprFront | .cprRear => 192
  | .indexTolerance => 2
  | .indexUse => 3
  | .ratioFront | .ratioRear => 9000
  | .speedFloor => 40
  | .statusInterval => 4

namespace Machine

/-- Periods of CLK_IN in one microsecond (R108). -/
abbrev clocksPerMicro : Nat := 40

/-- The 5 µs of the TOFF_N filter (R130), in periods of CLK_IN. -/
abbrev toffFilterClocks : Nat := 5 * clocksPerMicro

/-- The 33 µs of the gap timer (R169), in periods of CLK_IN. -/
abbrev gapClocks : Nat := 33 * clocksPerMicro

/-- One bit time, 1 µs (R164), in periods of CLK_IN. -/
abbrev bitClocks : Nat := clocksPerMicro

/-- One byte, 11 bit times (R164), in periods of CLK_IN. -/
abbrev byteClocks : Nat := 11 * bitClocks

/-- The 22 µs of a break (R166, R174), in periods of CLK_IN. -/
abbrev breakClocks : Nat := 22 * clocksPerMicro

/-- The 33 µs from the end of a reset to an idle transmitter (R174), in periods of CLK_IN. -/
abbrev resetBreakClocks : Nat := 33 * clocksPerMicro

/-- The 40 µs in which a pass completes (R2), in periods of CLK_IN. -/
abbrev passClocks : Nat := 40 * clocksPerMicro

/-- The age at which the edge history expires, in µs (R77). -/
abbrev historyMicros : Nat := 65536

/-- The least spacing of qualified edges, in µs (R110). -/
abbrev qualifyMicros : Nat := 20

end Machine
end Sys2Proof
end

