-- ==== Sys2Proof/Machine/ResetValues.lean ====
section
/-! DEFINITION. The reset values of each block, from the last column of its table in spec/. -/

namespace Sys2Proof.Machine

/-- R109; the resolved level of SYNC_IN is log 8's. -/
def Ptm.reset : Ptm :=
  { mode := .internal, select := .rising, divider := 8, dividerCount := 0, lastQualified := none,
    oneShot := none, reacquire := 0, timer := some 1000, lastBoundary := 0, periodCount := 0,
    skipped := false, level := false }

/-- R74; the resolved levels before reset ends are log 8's. -/
def Asu.reset : Asu :=
  { levelA := false, levelB := false, levelZ := false, lastDir := none, windowCount := 0,
    windowStart := 0, phaseError := false, history := [], sinceIndex := 0, dirChanged := false,
    armed := false, faultCount := 0, goodRun := 0, health := .good,
    latched := { speed := 0, state := .invalid, health := .good } }

/-- R107. -/
def Image.reset : Image :=
  { demand := { fields := { demand := 0, mode := 0, trailer := false, mass := 0, grade := 0 }, age := 255 }
    envelope :=
      { front := { fields := { drive := 0, regen := 0, motorSpeed := 0, ready := false }, age := 255 }
        rear := { fields := { drive := 0, regen := 0, motorSpeed := 0, ready := false }, age := 255 } }
    reference := { fields := { magnitude := 0, direction := .forward, valid := false }, age := 255 }
    inputClamped := false }

/-- The content fields after reset: band 0 and zeros (R32, R54). -/
def Content.reset : Content :=
  { key := { load := .band 0, grade := .band 0, speed := .band 0 }
    policy := { share := 0, slipTarget := 0, gain := 0, transferCap := 0 } }

/-- The LRU order after reset and after a flush (R34). -/
def lruReset : List (Fin 4) := [0, 1, 2, 3]

/-- R54. -/
def SplitMap.reset : SplitMap :=
  { sets := Vector.replicate 16
      { ways := Vector.replicate 4 { valid := false, content := Content.reset }, lru := lruReset }
    stage := Content.reset, staged := false, slot := .empty }

/-- The reset column of R134. -/
def ConfigSet.reset : ConfigSet := ⟨⟨⟨Param.all.map Param.reset⟩, rfl⟩⟩

/-- R124, R130, R140; the resolved pin level is log 8's. -/
def Act.reset : Act :=
  { state := .standby, filtered := false, pinLevel := false, held := 0, active := ConfigSet.reset,
    pendingVals := Vector.replicate 23 none }

/-- R3: last sign NONE, no hold. -/
def AxleCarry.reset : AxleCarry := { lastSign := .none, holdActive := false, holdCounter := 0 }

/-- R4: every flag clear. -/
def AxleFlags.reset : AxleFlags := { slipCut := false, bound := false, hold := false, envStale := false }

/-- R3, R4. -/
def Ale.reset : Ale :=
  { carried := { demand := 0, share := 400, axle := { front := AxleCarry.reset, rear := AxleCarry.reset } }
    published :=
      { torque := { front := 0, rear := 0 }, shortfall := 0, demand := 0, share := 400
        slip := { front := 0, rear := 0 }, flags := { front := AxleFlags.reset, rear := AxleFlags.reset }
        noRef := false, refStale := false, demandStale := false, mapMiss := false
        mapResult := { hit := false, set := 0, way := 0 } }
    pass := none }

/-- R165. That the bit receiver, which R165 does not list, waits for a falling edge from RESET to RESET_END
is a DESIGN CHOICE (log 8). -/
def Liu.reset : Liu :=
  { framer := .hunt, assembly := [], gap := none, rxQueue := [], badCount := 0, faulted := false,
    linkEvent := false, txQueue := [], tx := .resetBreak 0, receiver := .waiting }

/-- The levels of the input pins in `State.reset`: RESET_N low, RXD resting high (R164), the rest
low. DESIGN CHOICE (log 7), unsafe: the lines are the outside's. -/
def Pins.reset : Pins :=
  { resetN := false, toffN := false, syncIn := false
    sensor := { front := { a := false, b := false, z := false }, rear := { a := false, b := false, z := false } }
    rxd := { vsc := true, fdi := true, rdi := true, sbc := true } }

end Sys2Proof.Machine
end

