-- ==== Sys2Proof/Machine/State.lean ====
section
/-! DEFINITION. The state of the allocator, the reasons a step can stop, and the state after reset. -/

namespace Sys2Proof.Machine

/-- Everything the spec gives the machine, block by block, and the queue of waiting commands. -/
structure State where
  /-- The levels on the input pins; the outside sets them between steps (log 7). -/
  pins     : Pins
  /-- RESET was taken and RESET_END was not yet (log 6). -/
  inReset  : Bool
  /-- The microsecond time base (R108). -/
  timeBase : Time
  /-- Clock periods since the time base last advanced, 0 to 39 (R108; log 16). -/
  subClock : Nat
  ptm      : Ptm
  asu      : PerAxle Asu
  image    : Image
  map      : SplitMap
  /-- The Limit Table's records in posting order, oldest first (R57). -/
  limits   : List Limit
  ale      : Ale
  act      : Act
  /-- The status interval counter (R141). -/
  statusCount : Nat
  /-- The round-robin pointer (R153). -/
  pointer  : Link
  liu      : PerLink Liu
  /-- MODEL's own: the index at which the next free value is taken (log 22). -/
  freeIndex : Nat
  /-- MODEL's own: the commands that wait, first in, first out (log 1). -/
  pending  : List Instr
deriving DecidableEq, Repr

/-- The spec names no condition that stops the part, so no fault exists (log 21; safe: nothing is
hidden by one). -/
inductive Fault where
deriving DecidableEq, Repr

/-- Why a command has no meaning. -/
inductive Refusal where
  /-- Raised by `exec` for a command whose meaning is not written yet. Safe: the machine stops. No
  arm of `exec` raises it any more. -/
  | notModelled (mnemonic : String)
deriving DecidableEq, Repr

/-- The machine as a reset leaves it, RESET_N still low: every block at its reset values (R54, R73,
R74, R107, R109, R123, R124, R140, R141, R153, R165; R3 and R4). Where the spec states no value, the
log names it (log 7, 8, 16, 22). -/
def State.reset : State :=
  { pins := Pins.reset, inReset := true, timeBase := 0, subClock := 0
    ptm := Ptm.reset, asu := { front := Asu.reset, rear := Asu.reset }, image := Image.reset
    map := SplitMap.reset, limits := [], ale := Ale.reset, act := Act.reset, statusCount := 0
    pointer := .vsc, liu := { vsc := Liu.reset, fdi := Liu.reset, rdi := Liu.reset, sbc := Liu.reset }
    freeIndex := 0, pending := [] }

end Sys2Proof.Machine
end

