-- ==== Sys2Proof/Machine/Ops.lean ====
section
/-! DEFINITION. The named operations the meanings are built from: the axle and link selections, the
arithmetic of 00 "Units and conventions", the parts of State, and the guard of a reset. -/

namespace Sys2Proof

/-- The link after this one, link 0 after link 3 (R154). -/
def Link.next : Link → Link
  | .vsc => .fdi
  | .fdi => .rdi
  | .rdi => .sbc
  | .sbc => .vsc

/-- The link number (00, "The four masters"; R55's owner codes). -/
def Link.number : Link → Nat
  | .vsc => 0
  | .fdi => 1
  | .rdi => 2
  | .sbc => 3

/-- The four links in the order of their numbers. -/
def Link.all : List Link := [.vsc, .fdi, .rdi, .sbc]

/-- The other axle. -/
def Axle.other : Axle → Axle
  | .front => .rear
  | .rear  => .front

/-- The link of an axle's inverter (R94). -/
def Axle.link : Axle → Link
  | .front => .fdi
  | .rear  => .rdi

namespace Machine

/-! ### Selections -/

/-- The value of an axle. -/
def PerAxle.get {α : Type} (p : PerAxle α) : Axle → α
  | .front => p.front
  | .rear  => p.rear

/-- The pair with one axle's value replaced. -/
def PerAxle.set {α : Type} (p : PerAxle α) (a : Axle) (x : α) : PerAxle α :=
  match a with
  | .front => { p with front := x }
  | .rear  => { p with rear := x }

/-- The pair of the values of a function. -/
def PerAxle.of {α : Type} (f : Axle → α) : PerAxle α := { front := f .front, rear := f .rear }

/-- The value of a link. -/
def PerLink.get {α : Type} (p : PerLink α) : Link → α
  | .vsc => p.vsc
  | .fdi => p.fdi
  | .rdi => p.rdi
  | .sbc => p.sbc

/-- The four values with one link's replaced. -/
def PerLink.set {α : Type} (p : PerLink α) (l : Link) (x : α) : PerLink α :=
  match l with
  | .vsc => { p with vsc := x }
  | .fdi => { p with fdi := x }
  | .rdi => { p with rdi := x }
  | .sbc => { p with sbc := x }

/-- The four values of a function. -/
def PerLink.of {α : Type} (f : Link → α) : PerLink α :=
  { vsc := f .vsc, fdi := f .fdi, rdi := f .rdi, sbc := f .sbc }

/-- A table with every cell changed by a function. -/
def mapCells {α β : Type} {n : Nat} (f : α → β) (v : Vector α n) : Vector β n :=
  ⟨⟨v.toArray.toList.map f⟩, by simp⟩

/-- A table whose cells combine those of two tables. -/
def zipCells {α β γ : Type} {n : Nat} (f : α → β → γ) (v : Vector α n) (w : Vector β n) : Vector γ n :=
  ⟨⟨List.zipWith f v.toArray.toList w.toArray.toList⟩, by simp⟩

/-! ### Arithmetic (00, "Arithmetic") -/

/-- Clamped to a range. -/
def clampInt (lo hi v : Int) : Int := if v < lo then lo else if hi < v then hi else v

/-- Clamped to a range. -/
def clampNat (lo hi v : Nat) : Nat := if v < lo then lo else if hi < v then hi else v

/-- Moved toward a target by at most a step. -/
def moveToward (v target step : Int) : Int :=
  if |target - v| ≤ step then target else if v < target then v + step else v - step

/-- The sign of a torque; `none` for zero. -/
def signOf (t : Int) : LastSign := if 0 < t then .positive else if t < 0 then .negative else .none

/-- The smallest of a first term and the terms of a list. -/
def smallest (first : Nat) (terms : List Nat) : Nat := terms.foldl min first

/-- The time from one time base value to a later one, modulo 2^32 (R108). -/
def elapsed (since now : Time) : Nat := (now - since).toNat

/-- A time base value some microseconds later, modulo 2^32 (R108). -/
def later (t : Time) (micros : Nat) : Time := t + BitVec.ofNat 32 micros

/-! ### Configuration (R134, R135) -/

/-- The value of a parameter. -/
def ConfigSet.val (c : ConfigSet) (p : Param) : Nat := c.vals.get p.index

/-- The set with one parameter's value replaced. -/
def ConfigSet.put (c : ConfigSet) (p : Param) (v : Nat) : ConfigSet :=
  ⟨c.vals.set p.index.val v p.index.isLt⟩

/-- The pending value of a parameter, if its pending flag is set. -/
def Act.pendingOf (x : Act) (p : Param) : Option Nat := x.pendingVals.get p.index

/-- The pending values with one parameter's replaced. -/
def Act.putPending (x : Act) (p : Param) (v : Option Nat) : Act :=
  { x with pendingVals := x.pendingVals.set p.index.val v p.index.isLt }

/-- Any pending flag is set (R135). -/
def Act.anyPending (x : Act) : Bool := x.pendingVals.toArray.toList.any Option.isSome

/-- CPR of an axle (04, opening). -/
def ConfigSet.cpr (c : ConfigSet) : Axle → Nat
  | .front => c.val .cprFront
  | .rear  => c.val .cprRear

/-- The drive ratio of an axle, in thousandths (04, opening). -/
def ConfigSet.ratio (c : ConfigSet) : Axle → Nat
  | .front => c.val .ratioFront
  | .rear  => c.val .ratioRear

/-- An axle's bit of INDEX_USE: bit 0 front, bit 1 rear (R134). -/
def ConfigSet.indexUse (c : ConfigSet) : Axle → Bool
  | .front => (c.val .indexUse).testBit 0
  | .rear  => (c.val .indexUse).testBit 1

/-! ### Parts of State -/

/-- The LIU of a link. -/
def State.liuOf (s : State) (l : Link) : Liu := s.liu.get l

/-- The state with one link's LIU changed. -/
def State.modLiu (s : State) (l : Link) (f : Liu → Liu) : State :=
  { s with liu := s.liu.set l (f (s.liu.get l)) }

/-- The ASU of an axle. -/
def State.asuOf (s : State) (a : Axle) : Asu := s.asu.get a

/-- The state with one axle's ASU changed. -/
def State.modAsu (s : State) (a : Axle) (f : Asu → Asu) : State :=
  { s with asu := s.asu.set a (f (s.asu.get a)) }

/-- The state with the sensor pins of an axle changed: a command that is a change of a line leaves
the pin at its new level (log 7). -/
def State.modSensorPins (s : State) (a : Axle) (f : SensorPins → SensorPins) : State :=
  { s with pins := { s.pins with sensor := s.pins.sensor.set a (f (s.pins.sensor.get a)) } }

/-- A block acts only outside a reset: while RESET_N is low it is held at its reset values
(00 "Pin summary", R123, R174; log 6). -/
def State.live (s : State) (f : State → State) : State := if s.inReset then s else f s

/-- An event whose condition does not hold does not occur and changes nothing (log 5). -/
def State.when (s : State) (c : Bool) (f : State → State) : State := if c then f s else s

/-- Every command answers a next state. -/
abbrev Result := Host.Outcome State Fault Refusal

end Machine
end Sys2Proof
end

