-- ==== Sys2Proof/Machine/Operands.lean ====
section
/-! DEFINITION. The operand forms: fields of a payload read at their offsets (09 §9.6; multi-byte
fields little-endian, signed fields two's complement: 00 "Frames"), and fields laid out in bytes. -/

namespace Sys2Proof.Machine

/-- A payload byte, unsigned. -/
def u8 (p : List Byte) (i : Nat) : Nat := (p.getD i 0).toNat

/-- Two payload bytes, unsigned, low byte first. -/
def u16 (p : List Byte) (i : Nat) : Nat := u8 p i + 256 * u8 p (i + 1)

/-- Two payload bytes, signed. -/
def s16 (p : List Byte) (i : Nat) : Int := (BitVec.ofNat 16 (u16 p i)).toInt

/-- A one-byte field. -/
def byte1 (n : Nat) : List Byte := [BitVec.ofNat 8 n]

/-- A 16-bit word in two bytes, low byte first. -/
def word2 (w : BitVec 16) : List Byte := [w.extractLsb' 0 8, w.extractLsb' 8 8]

/-- An unsigned two-byte field. -/
def nat2 (n : Nat) : List Byte := word2 (BitVec.ofNat 16 n)

/-- A signed two-byte field. -/
def int2 (t : Int) : List Byte := word2 (BitVec.ofInt 16 t)

/-- A key byte: 0 to 7 the band, 255 ANY, anything else no key (R40). -/
def keyOfByte (n : Nat) : Option KeyField :=
  if h : n < 8 then some (.band ⟨n, h⟩) else if n = 255 then some .any else none

/-- The byte of a key field: ANY is reported as 255 (R51). -/
def KeyField.toNat : KeyField → Nat
  | .band n => n.val
  | .any    => 255

/-- The axle codes of a limit (R55). -/
def LimitAxle.ofCode : Nat → Option LimitAxle
  | 0 => some .front
  | 1 => some .rear
  | 2 => some .both
  | _ => none

/-- The axle codes of a limit (R55). -/
def LimitAxle.code : LimitAxle → Nat
  | .front => 0
  | .rear  => 1
  | .both  => 2

/-- The kind codes of a limit (R55). -/
def LimitKind.ofCode : Nat → Option LimitKind
  | 0 => some .driveCeil
  | 1 => some .regenCeil
  | 2 => some .rateCeil
  | 3 => some .noTransfer
  | _ => none

/-- The kind codes of a limit (R55). -/
def LimitKind.code : LimitKind → Nat
  | .driveCeil  => 0
  | .regenCeil  => 1
  | .rateCeil   => 2
  | .noTransfer => 3

/-- A limit applies to an axle when its axle field is that axle or BOTH (03 §3.6). -/
def LimitAxle.covers : LimitAxle → Axle → Bool
  | .both,  _      => true
  | .front, .front => true
  | .rear,  .rear  => true
  | .front, .rear  => false
  | .rear,  .front => false

/-- A byte that may be 0 or 1 (R95, R96, R97). -/
def flagOfByte : Nat → Option Bool
  | 0 => some false
  | 1 => some true
  | _ => none

/-- The set of a mode and a trailer state: mode × 2 + trailer (R31). -/
def setOf (mode : Fin 8) (trailer : Bool) : Fin 16 :=
  ⟨mode.val * 2 + trailer.toNat, by have := mode.isLt; have := Bool.toNat_le trailer; omega⟩

/-- The state byte (R124). -/
def AllocState.code : AllocState → Nat
  | .standby   => 0
  | .run       => 1
  | .rampdown  => 2
  | .forcedOff => 3

/-- The speed state code (09 §9.6). -/
def SpeedState.code : SpeedState → Nat
  | .sensor     => 0
  | .substitute => 1
  | .invalid    => 2

/-- The health code (09 §9.6). -/
def Health.code : Health → Nat
  | .good    => 0
  | .suspect => 1
  | .fault   => 2

/-- The edge selection of a SYNC_EDGE value (R109, 06 §6.8). -/
def EdgeSelect.ofValue : Nat → EdgeSelect
  | 0 => .rising
  | 1 => .falling
  | _ => .both

end Sys2Proof.Machine
end

