-- ==== Sys2Proof/Machine/Flags.lean ====
section
/-! DEFINITION. The flag bytes of frames (09 §9.6, "Bit assignment"). -/

namespace Sys2Proof.Machine

/-- A byte from its bits, bit 0 first; bits not given are 0 (R163). -/
def flagByte (bits : List Bool) : Byte :=
  BitVec.ofNat 8 (bits.foldr (fun b n => b.toNat + 2 * n) 0)

/-- The link-fault mask: bit n set when link n is FAULTED (R145). -/
def State.faultMask (s : State) : Byte := flagByte (Link.all.map fun l => (s.liuOf l).faulted)

/-- The MAP_PENDING flag: the pending slot holds a write or a flush (R41). -/
def SplitMap.pendingFlag (m : SplitMap) : Bool :=
  match m.slot with
  | .empty       => false
  | .write _ _ _ => true
  | .flush       => true

/-- The SYNC_MODE flag: 1 SYNCED, 0 INTERNAL (R145). -/
def SyncMode.flag : SyncMode → Bool
  | .synced   => true
  | .internal => false

/-- The low byte of the period count (R120). -/
def Ptm.countByte (p : Ptm) : Byte := p.periodCount.extractLsb' 0 8

end Sys2Proof.Machine
end

