-- ==== Sys2Proof/Machine/Transmit.lean ====
section
/-! DEFINITION. The transmit side of a Link Interface Unit (R147, R148, R153, R159, R173, R174) and the
level it drives on TXD (R164). -/

namespace Sys2Proof

/-- The frame's LINK_EVENT flag: bit 6 of AXLE_COMMAND's flags, bit 2 of SLIP_REPORT's, bit 6 of
STATUS_REPORT's (09 §9.6); a RESPONSE has none (R148). -/
def Frame.linkEvent (f : Frame) : Bool :=
  if f.kind = Frame.axleCommandCode then (f.payload.getD 3 0).getLsbD 6
  else if f.kind = Frame.slipReportCode then (f.payload.getD 9 0).getLsbD 2
  else if f.kind = Frame.statusReportCode then (f.payload.getD 13 0).getLsbD 6
  else false

/-- The frame is a RESPONSE (R153). -/
def Frame.isResponse (f : Frame) : Bool := f.kind = Frame.responseCode

namespace Machine

/-- The number of RESPONSE frames that wait (R153). -/
def Liu.responses (u : Liu) : Nat := u.txQueue.countP Frame.isResponse

/-- When the transmitter is idle and the queue holds a frame, the oldest leaves the queue and begins;
when its LINK_EVENT flag is set it clears the latch (R173, R148). -/
def Liu.startNext (u : Liu) : Liu :=
  match u.tx, u.txQueue with
  | .idle, f :: rest =>
    { u with tx := .sending f 0, txQueue := rest, linkEvent := u.linkEvent && !f.linkEvent }
  | _, _ => u

/-- A RESPONSE is appended as the newest frame (R159). -/
def Liu.appendResponse (u : Liu) (f : Frame) : Liu :=
  Liu.startNext { u with txQueue := u.txQueue ++ [f] }

/-- An unsent frame of the same kind is replaced in its position; otherwise the frame is appended
(R147). -/
def placePeriodic (f : Frame) : List Frame → List Frame
  | []     => [f]
  | g :: q => if g.kind = f.kind then f :: q else g :: placePeriodic f q

/-- A periodic frame is handed to the transmit queue (R147). -/
def Liu.putPeriodic (u : Liu) (f : Frame) : Liu :=
  Liu.startNext { u with txQueue := placePeriodic f u.txQueue }

end Machine

/-- How long a frame takes on the line: its L + 3 bytes, back to back (R164, R173). -/
def Frame.clocks (f : Frame) : Nat := (f.payload.length + 3) * Machine.byteClocks

namespace Machine

/-- The number of bytes of the frame in transmission already sent (R165). -/
def Transmitter.bytesSent : Transmitter → Nat
  | .idle             => 0
  | .sending _ clocks => clocks / byteClocks
  | .resetBreak _     => 0

/-- The frame in transmission is over (R173). -/
def Transmitter.frameDone : Transmitter → Bool
  | .idle             => false
  | .sending f clocks => Frame.clocks f ≤ clocks
  | .resetBreak _     => false

/-- The reset break is over: 33 µs after the reset ended (R174). -/
def Transmitter.breakDone : Transmitter → Bool
  | .idle              => false
  | .sending _ _       => false
  | .resetBreak clocks => resetBreakClocks ≤ clocks

/-- The transmitter one clock period later. -/
def Transmitter.advance : Transmitter → Transmitter
  | .idle              => .idle
  | .sending f clocks  => .sending f (clocks + 1)
  | .resetBreak clocks => .resetBreak (clocks + 1)

/-- The level of bit `n` of a byte on the line: start bit low, eight data bits least significant
first, the marker bit (set in the header alone), stop bit high (R164, R150). -/
def lineBit (data : Byte) (marker : Bool) (n : Nat) : Bool :=
  if n = 0 then false else if n ≤ 8 then data.getLsbD (n - 1) else if n = 9 then marker else true

/-- The level on TXD outside a reset: high when idle, the bits of the frame in transmission and high after
its last stop bit, or the reset break, low for 22 µs and then high (R164, R174). -/
def Transmitter.level : Transmitter → Bool
  | .idle              => true
  | .sending f clocks  =>
    decide (Frame.clocks f ≤ clocks) ||
      lineBit (f.bytes.getD (clocks / byteClocks) 0) (clocks / byteClocks = 0) (clocks % byteClocks / bitClocks)
  | .resetBreak clocks => breakClocks ≤ clocks

/-- The level on a link's TXD; every TXD is high while RESET_N is low (R174). -/
def State.txd (s : State) (l : Link) : Bool := s.inReset || (s.liuOf l).tx.level

end Machine
end Sys2Proof
end

