-- ==== Sys2Proof/Machine/Receive.lean ====
section
/-! DEFINITION. The receive side of a Link Interface Unit: the framer (R167 to R171), breaks (R172),
and the bit receiver that turns the levels of RXD into bytes and breaks (R164, R166). -/

namespace Sys2Proof.Machine

/-- A frame abandoned as bad is counted; the count reaching 8 sets FAULTED and LINK_EVENT, and a count
that stands at 8 stays (R171). -/
def Liu.countBad (u : Liu) : Liu :=
  if u.badCount = 7 then { u with badCount := 8, faulted := true, linkEvent := true }
  else if u.badCount < 7 then { u with badCount := u.badCount + 1 }
  else u

/-- The frame in assembly is abandoned as bad and the framer enters HUNT (R168, R169). -/
def Liu.abandonBad (u : Liu) : Liu :=
  { u.countBad with framer := .hunt, assembly := [], gap := none }

/-- A good frame: the bad count and FAULTED are cleared, and the frame joins the receive queue, or
meets a full queue, is discarded and puts the framer into OVERRUN (R170). -/
def Liu.takeGood (u : Liu) (f : Frame) : Liu :=
  let v := { u with badCount := 0, faulted := false, assembly := [], gap := none }
  if u.rxQueue.length < 2 then { v with framer := .hunt, rxQueue := u.rxQueue ++ [f] }
  else { v with framer := .overrun, linkEvent := true }

/-- A byte begins a frame in assembly as its header (R167, R168 row 2). -/
def Liu.beginFrame (u : Liu) (data : Byte) : Liu :=
  { u with framer := .inFrame, assembly := [data], gap := some 0 }

/-- A byte is added to the frame in assembly; a complete frame is tested (R168 row 4, R170). -/
def Liu.addByte (u : Liu) (data : Byte) : Liu :=
  let bytes := u.assembly ++ [data]
  if bytes.length = (bytes.getD 1 0).toNat + 3 then
    match Frame.ofBytes bytes with
    | some f => u.takeGood f
    | none   => u.abandonBad
  else { u with assembly := bytes, gap := some 0 }

/-- A byte taken, judged by the framer (R167, R168, R170). -/
def Liu.takeByte (u : Liu) (data : Byte) (marker stopError : Bool) : Liu :=
  match u.framer with
  | .hunt    => if marker && !stopError then u.beginFrame data else u
  | .overrun => u
  | .inFrame =>
    if stopError then u.abandonBad
    else if marker then u.countBad.beginFrame data
    else if u.assembly.length = 1 ∧ 16 < data.toNat then u.abandonBad
    else u.addByte data

/-- A confirmed start bit stops the gap timer of a frame in assembly (R169). -/
def Liu.startBit (u : Liu) : Liu :=
  match u.framer with
  | .inFrame => { u with gap := none }
  | .hunt    => u
  | .overrun => u

/-- The gap timer has run for 33 µs in IN_FRAME (R169). -/
def Liu.gapDone (u : Liu) : Bool :=
  match u.framer, u.gap with
  | .inFrame, some n => gapClocks ≤ n
  | _, _ => false

/-- A break (R172). -/
def Liu.takeBreak (u : Liu) : Liu :=
  { u with framer := .hunt, assembly := [], gap := none, rxQueue := [], txQueue := [], badCount := 0,
           linkEvent := true }

/-- What the bit receiver hands on. -/
inductive RxEvent where
  | startBit
  | byte (data : Byte) (marker stopError : Bool)
  | lineBreak
deriving DecidableEq, Repr

/-- The command of a receiver's event on a link. -/
def RxEvent.command (l : Link) : RxEvent → Instr
  | .startBit                 => .startBitConfirmed l
  | .byte data marker stopErr => .byteTaken l data marker stopErr
  | .lineBreak                => .linkBreak l

/-- The length of the present low level after one more sample: none on a high line, 0 at its falling
edge (R166). -/
def lowAfter (low : Option Nat) (level : Bool) : Option Nat :=
  if level then none else some (match low with | none => 0 | some n => n + 1)

/-- The byte of nine samples: eight data bits, least significant first, and the marker (R164). -/
def byteOfSamples (samples : List Bool) (stopErr : Bool) : RxEvent :=
  .byte (flagByte (samples.take 8)) (samples.getD 8 false) stopErr

/-- The bit receiver resolves RXD once more, 25 ns later (R164, R166). A low level that has lasted 22 µs is
a break at that moment, even where the line rises just then; it then waits for the line to be high. Of a
candidate start bit only the level 0.5 µs after its edge is read: a line that rose and fell again in between
confirms it, and the second fall is no candidate of its own: DESIGN CHOICE (log 25). -/
def Receiver.sample (r : Receiver) (level : Bool) : Receiver × Option RxEvent :=
  match r with
  | .waiting => (if level then .waiting else .candidate 0 (some 0), none)
  | .candidate n low =>
    if n + 1 = bitClocks / 2 then
      if level then (.waiting, none) else (.inByte (n + 1) (lowAfter low level) [], some .startBit)
    else (.candidate (n + 1) (lowAfter low level), none)
  | .inByte n low samples =>
    if n + 1 = bitClocks + bitClocks / 2 + samples.length * bitClocks then
      if samples.length < 9 then (.inByte (n + 1) (lowAfter low level) (samples ++ [level]), none)
      else if level then (.waiting, some (byteOfSamples samples false))
      else (.stopLow ((lowAfter low level).getD 0) samples, none)
    else (.inByte (n + 1) (lowAfter low level) samples, none)
  | .stopLow low samples =>
    if breakClocks ≤ low + 1 then (if level then .waiting else .awaitHigh, some .lineBreak)
    else if level then (.waiting, some (byteOfSamples samples true))
    else (.stopLow (low + 1) samples, none)
  | .awaitHigh => (if level then .waiting else .awaitHigh, none)

end Sys2Proof.Machine
end

