-- ==== Sys2Proof/Machine/Links.lean ====
section
/-! DEFINITION. The meanings of the commands of the serial links (chapter 10). -/

namespace Sys2Proof.Machine

/-- BYTE_TAKEN (R166 to R168, R170, R171). -/
def execByteTaken (l : Link) (data : Byte) (marker stopError : Bool) (s : State) : Result :=
  .next (s.live fun s => s.modLiu l fun u => u.takeByte data marker stopError)

/-- START_BIT_CONFIRMED (R164, R169). -/
def execStartBitConfirmed (l : Link) (s : State) : Result :=
  .next (s.live fun s => s.modLiu l Liu.startBit)

/-- GAP_EXPIRY (R169, R171): occurs when the gap timer has run for 33 µs (log 5). -/
def execGapExpiry (l : Link) (s : State) : Result :=
  .next (s.live fun s => s.when (s.liuOf l).gapDone fun s => s.modLiu l Liu.abandonBad)

/-- BREAK (R172). -/
def execLinkBreak (l : Link) (s : State) : Result :=
  .next (s.live fun s => s.modLiu l Liu.takeBreak)

/-- FRAME_TRANSMIT_END (R173): occurs when the last byte of the frame in transmission has ended
(log 5); the next oldest frame begins at the same moment. -/
def execFrameTransmitEnd (l : Link) (s : State) : Result :=
  .next (s.live fun s => s.when (s.liuOf l).tx.frameDone fun s =>
    s.modLiu l fun u => Liu.startNext { u with tx := .idle })

/-- RESET_BREAK_END (R174): occurs 33 µs after the reset ended (log 5); the oldest waiting frame
begins. -/
def execResetBreakEnd (l : Link) (s : State) : Result :=
  .next (s.live fun s => s.when (s.liuOf l).tx.breakDone fun s =>
    s.modLiu l fun u => Liu.startNext { u with tx := .idle })

end Sys2Proof.Machine
end

