-- ==== Sys2Proof/Machine/Reset.lean ====
section
/-! DEFINITION. The meanings of RESET and RESET_END. -/

namespace Sys2Proof.Machine

/-- RESET (R123, R2, R54, R73, R93, R107, R140, R141, R153, R162, R165): every block takes its reset
values, a pass in flight is abandoned, the time base is 0. The queue of commands, the other pins and the
free-value counter are not the allocator's to reset (log 18). -/
def execReset (s : State) : Result :=
  .next { State.reset with
    pins := { s.pins with resetN := false }, freeIndex := s.freeIndex, pending := s.pending }

/-- The receiver when reset ends: with RXD low it waits for the line to go high (R166). -/
def Receiver.atResetEnd (level : Bool) : Receiver := if level then .waiting else .awaitHigh

/-- The blocks take the levels of their lines when reset ends, and count no edge (R93, R123, R130, R166). -/
def State.takeLevels (s : State) : State :=
  { s with
      ptm := { s.ptm with level := s.pins.syncIn }
      act := { s.act with pinLevel := s.pins.toffN, held := 0 }
      asu := PerAxle.of fun a =>
        let q := s.pins.sensor.get a
        { s.asu.get a with levelA := q.a, levelB := q.b, levelZ := q.z }
      liu := PerLink.of fun l =>
        { s.liu.get l with receiver := Receiver.atResetEnd (s.pins.rxd.get l), tx := .resetBreak 0 } }

/-- RESET_END (R93, R108, R123, R174): occurs when a reset stands (log 5). The time base counts from
here, the blocks take the levels of their lines, and each LIU begins its reset break. -/
def execResetEnd (s : State) : Result :=
  .next (s.when s.inReset fun s =>
    ({ s with inReset := false, pins := { s.pins with resetN := true } } : State).takeLevels)

end Sys2Proof.Machine
end

