-- ==== Sys2Proof/Machine/Request.lean ====
section
/-! DEFINITION. The Request Engine: eligibility, the arbiter, the three checks, the RESPONSE, and the
one event in which a frame is handled (chapter 9). -/

namespace Sys2Proof

/-- The links permitted to send a kind (R152). -/
def Kind.permitted : Kind → Link → Bool
  | .demand,    l => l = .vsc
  | .envelope,  l => l = .fdi || l = .rdi
  | .reference, l => l = .sbc
  | .mapStage,  l | .mapCommit, l | .mapFlush, l => l = .vsc
  | .configWrite, l | .allocEnable, l | .allocDisable, l => l = .vsc
  | .limitPost, _ | .limitWithdraw, _ | .limitList, _ => true
  | .mapRead, _ | .mapProbe, _ => true
  | .configRead, _ | .statusQuery, _ => true

/-- The payload length a kind requires (R152). -/
def Kind.length : Kind → Nat
  | .demand        => 8
  | .envelope      => 7
  | .reference     => 4
  | .limitPost     => 6
  | .limitWithdraw => 1
  | .limitList     => 1
  | .mapStage      => 9
  | .mapCommit     => 3
  | .mapFlush      => 0
  | .mapRead       => 2
  | .mapProbe      => 5
  | .configWrite   => 3
  | .configRead    => 1
  | .allocEnable   => 0
  | .allocDisable  => 0
  | .statusQuery   => 0

namespace Machine

/-- The status codes (R160). -/
inductive Status where
  | ok | badKind | notPermitted | badField | wrongState | limitFull | notFound | pendingBusy
  | badComplement | clamped
deriving DecidableEq, Repr

/-- The number of a status code (R160). -/
def Status.code : Status → Nat
  | .ok            => 0
  | .badKind       => 1
  | .notPermitted  => 2
  | .badField      => 3
  | .wrongState    => 4
  | .limitFull     => 5
  | .notFound      => 6
  | .pendingBusy   => 7
  | .badComplement => 8
  | .clamped       => 9

/-- What an owner returns for a frame: a status and its data bytes (R158, R159). -/
structure Answer where
  status : Status
  data   : List Byte
deriving DecidableEq, Repr

/-- An answer without data bytes. -/
def bare (st : Status) : Answer := { status := st, data := [] }

/-- An owner judges a frame that passed the checks: it takes the link, the payload and the state, and
gives the state it leaves and its answer, none for an accepted input frame (R158). -/
abbrev Owner := Link → List Byte → State → State × Option Answer

/-- The RESPONSE to a frame (R159, R151). -/
def response (f : Frame) (a : Answer) : Frame :=
  { kind := Frame.responseCode, tag := f.tag
    payload := f.kind.setWidth 8 :: BitVec.ofNat 8 a.status.code :: a.data }

/-- A link is eligible when a frame waits in its receive queue and fewer than two RESPONSE frames
wait in its transmit queue (R153). -/
def Liu.eligible (u : Liu) : Bool := !u.rxQueue.isEmpty && u.responses < 2

/-- The links in the order the arbiter examines them, from the pointer on (R154). -/
def examineOrder (p : Link) : List Link := [p, p.next, p.next.next, p.next.next.next]

/-- The link the arbiter serves next, and the frame it handles: the oldest of the first eligible link
(R154). -/
def State.served (s : State) : Option (Link × Frame) :=
  match (examineOrder s.pointer).find? (fun l => (s.liuOf l).eligible) with
  | none   => none
  | some l =>
    match (s.liuOf l).rxQueue with
    | []     => none
    | f :: _ => some (l, f)

/-- The frame served leaves its receive queue, and the pointer names the link after it (R154). -/
def State.dequeue (s : State) (l : Link) : State :=
  { s.modLiu l fun u => { u with rxQueue := u.rxQueue.tail } with pointer := l.next }

/-- The answer, if any, joins the transmit queue of the frame's link (R159). -/
def State.answer (s : State) (l : Link) (f : Frame) : Option Answer → State
  | none   => s
  | some a => s.modLiu l fun u => u.appendResponse (response f a)

/-- Checks 2 and 3 of R157, and then the owner (R158). -/
def judge (k : Kind) (owner : Owner) (l : Link) (f : Frame) (s : State) : State × Option Answer :=
  if !k.permitted l then (s, some (bare .notPermitted))
  else if f.payload.length ≠ k.length then (s, some (bare .badField))
  else owner l f.payload s

/-- One event of the Request Engine: the frame the arbiter serves is handled. It occurs when that
frame is of this kind (R154, R157; log 5, 9). -/
def State.handle (s : State) (k : Kind) (owner : Owner) : State :=
  match s.served with
  | none => s
  | some (l, f) =>
    if Kind.ofCode f.kind = some k then
      let r := judge k owner l f (s.dequeue l)
      r.1.answer l f r.2
    else s

/-- The meaning of a command that serves a frame of a kind. -/
def serve (k : Kind) (owner : Owner) (s : State) : Result := .next (s.live fun s => s.handle k owner)

/-- BAD_KIND_FRAME (R157, check 1): the frame served is of no master-to-allocator kind. -/
def execBadKindFrame (s : State) : Result :=
  .next (s.live fun s =>
    match s.served with
    | none => s
    | some (l, f) =>
      if Kind.ofCode f.kind = none then (s.dequeue l).answer l f (some (bare .badKind)) else s)

end Machine
end Sys2Proof
end

