-- ==== Sys2Proof/Machine/Image.lean ====
section
/-! DEFINITION. The Input Image: the input frames (R95 to R98), the ages and the take (R101, R102), and
the meanings of DEMAND, ENVELOPE and REFERENCE. -/

namespace Sys2Proof.Machine

/-- A DEMAND frame is checked, clamped and kept, or refused (R95, R98, R99). -/
def takeDemand : Owner := fun _ p s =>
  if h : u8 p 2 < 8 then
    match flagOfByte (u8 p 3) with
    | none => (s, some (bare .badField))
    | some trailer =>
      let demand := clampInt (-16000) 16000 (s16 p 0)
      let grade := clampInt (-400) 400 (s16 p 6)
      let fields : DemandRec :=
        { demand := demand, mode := ⟨u8 p 2, h⟩, trailer := trailer, mass := u16 p 4, grade := grade }
      ({ s with image := { s.image with
          demand := { fields := fields, age := 0 }
          inputClamped := s.image.inputClamped || decide (demand ≠ s16 p 0 ∨ grade ≠ s16 p 6) } }, none)
  else (s, some (bare .badField))

/-- The axle an ENVELOPE's link names; only the inverters' links reach the Image (R94). -/
def axleOfLink : Link → Axle
  | .fdi => .front
  | .rdi => .rear
  | .vsc => .front
  | .sbc => .front

/-- An ENVELOPE frame is checked, clamped and kept, or refused (R96, R98, R99). -/
def takeEnvelope : Owner := fun l p s =>
  match flagOfByte (u8 p 6) with
  | none => (s, some (bare .badField))
  | some ready =>
    let drive := min (u16 p 0) 16000
    let regen := min (u16 p 2) 16000
    let fields : EnvelopeRec := { drive := drive, regen := regen, motorSpeed := s16 p 4, ready := ready }
    ({ s with image := { s.image with
        envelope := s.image.envelope.set (axleOfLink l) { fields := fields, age := 0 }
        inputClamped := s.image.inputClamped || decide (drive ≠ u16 p 0 ∨ regen ≠ u16 p 2) } }, none)

/-- A REFERENCE frame is checked and kept, or refused (R97, R98). -/
def takeReference : Owner := fun _ p s =>
  match flagOfByte (u8 p 2), flagOfByte (u8 p 3) with
  | some reverse, some valid =>
    let fields : ReferenceRec :=
      { magnitude := u16 p 0, direction := if reverse then .reverse else .forward, valid := valid }
    ({ s with image := { s.image with reference := { fields := fields, age := 0 } } }, none)
  | _, _ => (s, some (bare .badField))

/-- An age advances by one, stopping at 255 (R101). -/
def Aged.advance {α : Type} (r : Aged α) : Aged α := { r with age := min (r.age + 1) 255 }

/-- The ages advance at the take (R101). -/
def Image.advance (i : Image) : Image :=
  { i with demand := i.demand.advance
           envelope := PerAxle.of fun a => (i.envelope.get a).advance
           reference := i.reference.advance }

/-- A record in the copy: fresh when its age is within the threshold and its link is not FAULTED
(R102). -/
def Aged.mark {α : Type} (r : Aged α) (threshold : Nat) (faulted : Bool) : Marked α :=
  { fields := r.fields, age := r.age, fresh := decide (r.age ≤ threshold) && !faulted }

/-- The copy handed to the pass, marked with the active thresholds and the links' FAULTED (R102). -/
def State.imageCopy (s : State) : ImageCopy :=
  { demand := s.image.demand.mark (s.act.active.val .demandStale) (s.liuOf .vsc).faulted
    envelope := PerAxle.of fun a =>
      (s.image.envelope.get a).mark (s.act.active.val .envelopeStale) (s.liuOf a.link).faulted
    reference := s.image.reference.mark (s.act.active.val .referenceStale) (s.liuOf .sbc).faulted }

/-- DEMAND (R95, R98, R157, R158). -/
def execDemand (s : State) : Result := serve .demand takeDemand s

/-- ENVELOPE (R96, R98, R157, R158). -/
def execEnvelope (s : State) : Result := serve .envelope takeEnvelope s

/-- REFERENCE (R97, R98, R157, R158). -/
def execReference (s : State) : Result := serve .reference takeReference s

end Sys2Proof.Machine
end

