-- ==== Sys2Proof/Machine/Reports.lean ====
section
/-! DEFINITION. The Report Generator: the periodic frames (R143, R144, R145, R146), when they are built
(R141, R142) and queued (R147). -/

namespace Sys2Proof.Machine

/-- A periodic frame is handed to its link's transmit queue (R147). -/
def State.queuePeriodic (s : State) (l : Link) (f : Frame) : State :=
  s.modLiu l fun u => u.putPeriodic f

/-- The AXLE_COMMAND of an axle (R143). -/
def State.axleCommand (s : State) (a : Axle) : Frame :=
  let flags := s.ale.published.flags.get a
  { kind := Frame.axleCommandCode, tag := 0
    payload := int2 (s.ale.published.torque.get a) ++
      [s.ptm.countByte,
       flagByte [s.act.state = .forcedOff, s.act.state = .standby, flags.hold, flags.slipCut, flags.bound,
                 flags.envStale, (s.liuOf a.link).linkEvent]] }

/-- The SLIP_REPORT's speed byte (09 §9.6). -/
def speedByte (l : PerAxle Latched) : Byte :=
  BitVec.ofNat 8 (l.front.state.code + 4 * l.front.health.code + 16 * l.rear.state.code + 64 * l.rear.health.code)

/-- The SLIP_REPORT; the latched speed states and healths are those the completing pass took (R142,
R144). -/
def State.slipReport (s : State) (latched : PerAxle Latched) : Frame :=
  let p := s.ale.published
  { kind := Frame.slipReportCode, tag := 0
    payload := int2 p.slip.front ++ int2 p.slip.rear ++ int2 p.torque.front ++ int2 p.torque.rear ++
      [speedByte latched, flagByte [p.noRef, p.refStale, (s.liuOf .sbc).linkEvent], s.ptm.countByte] }

/-- The map set byte: bits 0 to 3 the set, bit 7 the hit (09 §9.6). -/
def MapResult.setByte (r : MapResult) : Byte := BitVec.ofNat 8 (r.set.val + 128 * r.hit.toNat)

/-- The five figures STATUS_REPORT and STATUS_QUERY share: T_f, T_r, D_t, shortfall, S_a (09 §9.6). -/
def Published.figures (p : Published) : List Byte :=
  int2 p.torque.front ++ int2 p.torque.rear ++ int2 p.demand ++ int2 p.shortfall ++ nat2 p.share

/-- The STATUS_REPORT (R145). -/
def State.statusReport (s : State) : Frame :=
  let p := s.ale.published
  { kind := Frame.statusReportCode, tag := 0
    payload := byte1 s.act.state.code ++ p.figures ++
      [p.mapResult.setByte, BitVec.ofNat 8 p.mapResult.way.val,
       flagByte [s.ptm.skipped, p.demandStale, s.image.inputClamped, s.act.anyPending, s.map.pendingFlag,
                 s.ptm.mode.flag, (s.liuOf .vsc).linkEvent],
       s.faultMask, s.ptm.countByte] }

/-- Building a STATUS_REPORT clears the SKIPPED and INPUT_CLAMPED latches (R145, R119, R99). -/
def State.clearLatches (s : State) : State :=
  { s with ptm := { s.ptm with skipped := false }, image := { s.image with inputClamped := false } }

/-- The STATUS_REPORT is built when the status interval counter says it is due (R141). -/
def State.reportStatus (s : State) : State :=
  if s.act.active.val .statusInterval ≤ s.statusCount + 1 then
    { (s.clearLatches).queuePeriodic .vsc s.statusReport with statusCount := 0 }
  else { s with statusCount := s.statusCount + 1 }

/-- The AXLE_COMMAND of an axle is built and queued on its inverter's link (R142, R146). -/
def State.sendCommand (s : State) (a : Axle) : State := s.queuePeriodic a.link (s.axleCommand a)

/-- The frames of a completion, in the order of R142. -/
def State.reportCompletion (s : State) (latched : PerAxle Latched) : State :=
  let s1 := s.sendCommand .front
  let s2 := s1.sendCommand .rear
  let s3 := s2.queuePeriodic .sbc (s2.slipReport latched)
  s3.reportStatus

/-- The zero commands of a torque-off (R146). -/
def State.reportTorqueOff (s : State) : State := (s.sendCommand .front).sendCommand .rear

end Sys2Proof.Machine
end

