-- ==== Sys2Proof/Machine/Control.lean ====
section
/-! DEFINITION. Allocator Control: the allocator state (R126 to R128), the torque-off line (R130 to
R132), the configuration (R135 to R139), and the account of STATUS_QUERY (R149). -/

namespace Sys2Proof.Machine

/-! ### Configuration -/

/-- A change of an axle's active CPR, or the clearing of its INDEX_USE bit, clears its armed flag (R91,
R92). -/
def disarm (old new : ConfigSet) (asu : PerAxle Asu) : PerAxle Asu :=
  PerAxle.of fun a =>
    if old.cpr a ≠ new.cpr a ∨ (old.indexUse a ∧ !new.indexUse a) then { asu.get a with armed := false }
    else asu.get a

/-- The active set becomes another (R134, R91, R92). -/
def State.setActive (s : State) (new : ConfigSet) : State :=
  { s with act := { s.act with active := new }, asu := disarm s.act.active new s.asu }

/-- Every pending value whose flag is set moves into the active set, and every flag is cleared (R135). -/
def State.movePending (s : State) : State :=
  let new : ConfigSet := ⟨zipCells (fun old p => p.getD old) s.act.active.vals s.act.pendingVals⟩
  let s1 := s.setActive new
  { s1 with act := { s1.act with pendingVals := mapCells (fun _ => none) s.act.pendingVals } }

/-- CONFIG_WRITE as Allocator Control judges it (R136, R137). -/
def writeConfig : Owner := fun _ p s =>
  match Param.ofIndex (u8 p 0) with
  | none => (s, some (bare .badField))
  | some q =>
    let value := u16 p 1
    let stored := clampNat q.low q.high value
    let status := if stored = value then Status.ok else Status.clamped
    let atOnce := decide (s.act.state = .standby)
    let s1 :=
      if atOnce then
        let s2 := s.setActive (s.act.active.put q stored)
        { s2 with act := s2.act.putPending q none }
      else { s with act := s.act.putPending q (some stored) }
    (s1, some { status := status
                data := byte1 (u8 p 0) ++ nat2 stored ++ byte1 (if atOnce then 0 else 1) })

/-- CONFIG_READ as Allocator Control answers it (R139). -/
def readConfig : Owner := fun _ p s =>
  match Param.ofIndex (u8 p 0) with
  | none => (s, some (bare .badField))
  | some q =>
    let active := s.act.active.val q
    let pending := s.act.pendingOf q
    (s, some { status := .ok
               data := byte1 (u8 p 0) ++ nat2 active ++ nat2 (pending.getD active) ++
                 byte1 pending.isSome.toNat })

/-! ### The allocator state -/

/-- The state with the allocator state replaced. -/
def State.setAlloc (s : State) (x : AllocState) : State := { s with act := { s.act with state := x } }

/-- ALLOC_ENABLE as Allocator Control judges it (R126). -/
def enableAlloc : Owner := fun _ _ s =>
  if s.act.filtered then (s.setAlloc .run, some { status := .ok, data := byte1 AllocState.run.code })
  else (s, some { status := .wrongState, data := byte1 s.act.state.code })

/-- The state ALLOC_DISABLE leaves (R127). -/
def AllocState.disabled : AllocState → AllocState
  | .run       => .rampdown
  | .rampdown  => .rampdown
  | .standby   => .standby
  | .forcedOff => .standby

/-- ALLOC_DISABLE as Allocator Control judges it (R127). -/
def disableAlloc : Owner := fun _ _ s =>
  (s.setAlloc s.act.state.disabled, some { status := .ok, data := byte1 s.act.state.disabled.code })

/-- ACT's event at a completion: RAMPDOWN with both commands zero becomes STANDBY (R128). It touches no hold,
so a pass started in RUN that ends RAMPDOWN with a hold active leaves that hold and its counter standing, where
R126 says only that no hold is active after a RAMPDOWN pass: DESIGN CHOICE (log 26). -/
def State.endRampdown (s : State) : State :=
  if s.act.state = .rampdown ∧ s.ale.published.torque.front = 0 ∧ s.ale.published.torque.rear = 0 then
    s.setAlloc .standby
  else s

/-! ### Torque-off -/

/-- The published record with both commands zeroed and both HOLD flags cleared (R131). -/
def Published.zeroed (p : Published) : Published :=
  { p with torque := { front := 0, rear := 0 }
           flags := PerAxle.of fun a => { p.flags.get a with hold := false } }

/-- The carried state with both last signs NONE and no hold active (R131). -/
def Carried.released (c : Carried) : Carried :=
  { c with axle := PerAxle.of fun a => { c.axle.get a with lastSign := .none, holdActive := false } }

/-- What a falling does to ALE; a pass in flight keeps that it was taken (R131, R28). -/
def Ale.torqueOff (x : Ale) : Ale :=
  { carried := x.carried.released, published := x.published.zeroed
    pass := x.pass.map fun p => { p with toffTaken := true } }

/-- The falling of TOFF_N (R131). -/
def State.torqueOff (s : State) : State :=
  State.reportTorqueOff
    { s with act := { s.act with filtered := false, state := .forcedOff }, ale := s.ale.torqueOff }

/-- The filter has seen the pin hold this level for 5 µs and its own level is the other one (R130). -/
def Act.filterDue (x : Act) (level : Bool) : Bool :=
  x.pinLevel = level && x.filtered = !level && toffFilterClocks ≤ x.held

/-! ### The commands -/

/-- TOFF_N_PIN_CHANGE (R130): the filter's count of the held time restarts. It occurs when the level
is not the one the pin has (log 5). -/
def execToffNPinChange (high : Bool) (s : State) : Result :=
  .next (s.live fun s => s.when (s.act.pinLevel ≠ high) fun s =>
    { s with act := { s.act with pinLevel := high, held := 0 }, pins := { s.pins with toffN := high } })

/-- TOFF_N_FALLING (R131): occurs when the pin has been low for 5 µs and the filtered level is high
(R130; log 5). -/
def execToffNFalling (s : State) : Result :=
  .next (s.live fun s => s.when (s.act.filterDue false) State.torqueOff)

/-- TOFF_N_RISING (R132): occurs when the pin has been high for 5 µs and the filtered level is low
(R130; log 5). -/
def execToffNRising (s : State) : Result :=
  .next (s.live fun s => s.when (s.act.filterDue true) fun s =>
    { s with act := { s.act with filtered := true } })

/-- CONFIG_WRITE (R136, R137, R157). -/
def execConfigWrite (s : State) : Result := serve .configWrite writeConfig s

/-- CONFIG_READ (R139, R157). -/
def execConfigRead (s : State) : Result := serve .configRead readConfig s

/-- ALLOC_ENABLE (R126, R157). -/
def execAllocEnable (s : State) : Result := serve .allocEnable enableAlloc s

/-- ALLOC_DISABLE (R127, R157). -/
def execAllocDisable (s : State) : Result := serve .allocDisable disableAlloc s

/-- STATUS_QUERY as the Report Generator answers it (R149). -/
def queryStatus : Owner := fun _ _ s =>
  let p := s.ale.published
  (s, some { status := .ok
             data := byte1 s.act.state.code ++ p.figures ++
               [s.ptm.countByte,
                flagByte [false, p.demandStale, false, s.act.anyPending, s.map.pendingFlag, s.ptm.mode.flag,
                          false, p.mapMiss],
                s.faultMask] })

/-- STATUS_QUERY (R149, R157). -/
def execStatusQuery (s : State) : Result := serve .statusQuery queryStatus s

end Sys2Proof.Machine
end

