-- ==== Sys2Proof/Machine/Limits.lean ====
section
/-! DEFINITION. The Limit Table: posting, withdrawing, listing (R58 to R60, R65, R67), the take and
lifetime (R62, R63), and what the records mean for an axle (R69 to R71). -/

namespace Sys2Proof
namespace Machine

/-- The record of an owner and a tag (R56). -/
def Limit.named (r : Limit) (owner : Link) (tag : Nat) : Bool := r.owner = owner && r.tag = tag

/-- The number of records an owner holds (R56). -/
def ownerCount (table : List Limit) (owner : Link) : Nat := table.countP (fun r => r.owner = owner)

/-- The value as stored (R59). -/
def storedValue : LimitKind → Nat → Nat
  | .driveCeil,  v => min v 16000
  | .regenCeil,  v => min v 16000
  | .rateCeil,   v => clampNat 10 4000 v
  | .noTransfer, _ => 0

/-- CLAMPED when the stored value of a ceiling kind differs from the value received (R59). -/
def postStatus : LimitKind → Nat → Status
  | .noTransfer, _ => .ok
  | k, v => if storedValue k v = v then .ok else .clamped

/-- A posting replaces the sender's record with the same tag, as the newest, or is appended (R57, R60). -/
def placeLimit (table : List Limit) (r : Limit) : List Limit :=
  table.filter (fun q => !q.named r.owner r.tag) ++ [r]

/-- The axle an inverter may post on; the VSC and the SBC may post on any (R58, check 2). -/
def mayPostOn : Link → LimitAxle → Bool
  | .vsc, _ => true
  | .sbc, _ => true
  | .fdi, a => a = .front
  | .rdi, a => a = .rear

end Machine

/-- The sender is an inverter (R58, check 3). -/
def Link.isInverter : Link → Bool
  | .fdi => true
  | .rdi => true
  | .vsc => false
  | .sbc => false

namespace Machine

/-- LIMIT_POST as the Limit Table judges it (R58, R59, R60). -/
def postLimit : Owner := fun l p s =>
  match LimitAxle.ofCode (u8 p 1), LimitKind.ofCode (u8 p 2) with
  | some axle, some kind =>
    let tag := u8 p 0
    let value := u16 p 3
    let lifetime := u8 p 5
    if 15 < tag then (s, some (bare .badField))
    else if !mayPostOn l axle then (s, some (bare .notPermitted))
    else if Link.isInverter l && decide (lifetime = 0) then (s, some (bare .badField))
    else if !s.limits.any (fun r => r.named l tag) && decide (4 ≤ ownerCount s.limits l) then
      (s, some (bare .limitFull))
    else
      let record : Limit :=
        { owner := l, tag := tag, axle := axle, kind := kind, value := storedValue kind value
          lifetime := lifetime, remaining := lifetime }
      let table := placeLimit s.limits record
      ({ s with limits := table },
       some { status := postStatus kind value
              data := nat2 record.value ++ byte1 (ownerCount table l) ++ byte1 table.length })
  | _, _ => (s, some (bare .badField))

/-- LIMIT_WITHDRAW as the Limit Table judges it (R65). -/
def withdrawLimit : Owner := fun l p s =>
  let tag := u8 p 0
  if 15 < tag then (s, some (bare .badField))
  else if s.limits.any (fun r => r.named l tag) then
    let table := s.limits.filter (fun r => !r.named l tag)
    ({ s with limits := table },
     some { status := .ok, data := byte1 (ownerCount table l) ++ byte1 table.length })
  else (s, some (bare .notFound))

/-- LIMIT_LIST as the Limit Table answers it (R67). -/
def listLimit : Owner := fun _ p s =>
  let i := u8 p 0
  match s.limits[i]? with
  | none => (s, some { status := .notFound, data := byte1 s.limits.length })
  | some r =>
    (s, some { status := .ok
               data := byte1 s.limits.length ++ byte1 r.owner.number ++ byte1 r.tag ++ byte1 r.axle.code ++
                 byte1 r.kind.code ++ nat2 r.value ++ byte1 r.remaining ++
                 byte1 (if i + 1 < s.limits.length then i + 1 else 255) })

/-- One pass of lifetime is consumed from a record; lifetime 0 keeps remaining 0 (R63). -/
def Limit.consume (r : Limit) : Limit :=
  if r.lifetime = 0 then r else { r with remaining := r.remaining - 1 }

/-- The record stays after the take (R63). -/
def Limit.lives (r : Limit) : Bool := r.lifetime = 0 || r.remaining ≠ 0

/-- Lifetime is consumed at the take, and the expired records close up (R62, R63). -/
def consumeLimits (table : List Limit) : List Limit := (table.map Limit.consume).filter Limit.lives

/-- The values of the records of a kind that apply to an axle (R69, R70). -/
def ceilings (table : List Limit) (k : LimitKind) (a : Axle) : List Nat :=
  (table.filter fun r => decide (r.kind = k) && r.axle.covers a).map Limit.value

/-- The axle carries a NO_TRANSFER limit (R17, R71). -/
def carriesNoTransfer (table : List Limit) (a : Axle) : Bool :=
  table.any fun r => decide (r.kind = .noTransfer) && r.axle.covers a

/-- LIMIT_POST (R58 to R60, R157). -/
def execLimitPost (s : State) : Result := serve .limitPost postLimit s

/-- LIMIT_WITHDRAW (R65, R157). -/
def execLimitWithdraw (s : State) : Result := serve .limitWithdraw withdrawLimit s

/-- LIMIT_LIST (R67, R68, R157). -/
def execLimitList (s : State) : Result := serve .limitList listLimit s

end Machine
end Sys2Proof
end

