-- ==== Sys2Proof/Machine/Map.lean ====
section
/-! DEFINITION. The Split Map: lookup (R35 to R37), LRU order (R34), staging, commit, flush (R40, R43,
R50), application at a pass start (R45 to R49), and reading (R51, R52). -/

namespace Sys2Proof.Machine

/-- The four ways, by number. -/
def allWays : List (Fin 4) := [0, 1, 2, 3]

/-- A way is moved to the front of an LRU order (R34). -/
def moveFront (w : Fin 4) (lru : List (Fin 4)) : List (Fin 4) := w :: lru.filter (· ≠ w)

/-- A way is moved to the end of an LRU order (R34). -/
def moveEnd (w : Fin 4) (lru : List (Fin 4)) : List (Fin 4) := lru.filter (· ≠ w) ++ [w]

/-- The entry of a way. -/
def MapSet.entry (m : MapSet) (w : Fin 4) : Entry := m.ways.get w

/-- The set with one way's entry replaced. -/
def MapSet.putEntry (m : MapSet) (w : Fin 4) (e : Entry) : MapSet :=
  { m with ways := m.ways.set w.val e w.isLt }

/-- A set of the map. -/
def SplitMap.set (m : SplitMap) (n : Fin 16) : MapSet := m.sets.get n

/-- The map with one set replaced. -/
def SplitMap.putSet (m : SplitMap) (n : Fin 16) (x : MapSet) : SplitMap :=
  { m with sets := m.sets.set n.val x n.isLt }

/-! ### Lookup (R35, R36, R37) -/

/-- A key field equals the band or is ANY (R35). -/
def KeyField.matchesBand : KeyField → Fin 8 → Bool
  | .any,    _ => true
  | .band n, b => n = b

/-- A valid entry matches a key (R35). -/
def Entry.matchesKey (e : Entry) (k : MapKey) : Bool :=
  e.valid && e.content.key.load.matchesBand k.load && e.content.key.grade.matchesBand k.grade &&
    e.content.key.speed.matchesBand k.speed

/-- 1 for ANY, 0 for a band. -/
def KeyField.anyCount : KeyField → Nat
  | .any    => 1
  | .band _ => 0

/-- The number of ANY fields of a key (R36). -/
def EntryKey.anyCount (k : EntryKey) : Nat := k.load.anyCount + k.grade.anyCount + k.speed.anyCount

/-- The better of the way found so far and a later way: the later one only with fewer ANY fields, so
that the lowest number wins a tie (R36). -/
def MapSet.better (m : MapSet) (k : MapKey) (best : Option (Fin 4)) (w : Fin 4) : Option (Fin 4) :=
  if (m.entry w).matchesKey k then
    match best with
    | none   => some w
    | some b => if (m.entry w).content.key.anyCount < (m.entry b).content.key.anyCount then some w else best
  else best

/-- The way the lookup selects in a set (R35, R36). -/
def MapSet.select (m : MapSet) (k : MapKey) : Option (Fin 4) := allWays.foldl (m.better k) none

/-- The active default policy (R10, R52). -/
def ConfigSet.defaultPolicy (c : ConfigSet) : Policy :=
  { share := c.val .defaultShare, slipTarget := c.val .defaultSlipTarget
    gain := c.val .defaultSlipGain, transferCap := c.val .defaultTransferCap }

/-- The lookup of a pass: on a hit the way moves to the front of its set's order (R37, R10). -/
def SplitMap.lookup (m : SplitMap) (k : MapKey) (defaults : Policy) : SplitMap × Policy × MapResult :=
  let x := m.set k.set
  match x.select k with
  | some w => (m.putSet k.set { x with lru := moveFront w x.lru }, (x.entry w).content.policy,
               { hit := true, set := k.set, way := w })
  | none   => (m, defaults, { hit := false, set := k.set, way := 0 })

/-! ### Application at a pass start (R45 to R49) -/

/-- The first step: which way is written (R46). -/
def MapSet.chooseWay (m : MapSet) : WayChoice → Fin 4
  | .way n => n
  | .auto  =>
    match allWays.find? (fun w => !(m.entry w).valid) with
    | some w => w
    | none   => m.lru.getLast?.getD 0

/-- The second step for one way: a valid way other than the chosen one with the identical key is made
invalid and moved to the end (R47). -/
def MapSet.evict (chosen : Fin 4) (key : EntryKey) (m : MapSet) (w : Fin 4) : MapSet :=
  if w ≠ chosen ∧ (m.entry w).valid ∧ (m.entry w).content.key = key then
    { m.putEntry w { m.entry w with valid := false } with lru := moveEnd w m.lru }
  else m

/-- The third step: the chosen way is written, made valid and moved to the front (R48). -/
def MapSet.writeWay (m : MapSet) (w : Fin 4) (c : Content) : MapSet :=
  { m.putEntry w { valid := true, content := c } with lru := moveFront w m.lru }

/-- A write is applied to its set (R45 to R48). -/
def MapSet.applyWrite (m : MapSet) (c : Content) (choice : WayChoice) : MapSet :=
  let w := m.chooseWay choice
  (allWays.foldl (MapSet.evict w c.key) m).writeWay w c

/-- A flush of one set: no entry valid, the order 0, 1, 2, 3, the contents kept (R49). -/
def MapSet.flush (m : MapSet) : MapSet :=
  { ways := mapCells (fun e => { e with valid := false }) m.ways, lru := lruReset }

/-- The pending operation is applied and the slot emptied (R45). -/
def SplitMap.applyPending (m : SplitMap) : SplitMap :=
  match m.slot with
  | .empty => m
  | .write c n choice => { m.putSet n ((m.set n).applyWrite c choice) with slot := .empty }
  | .flush => { m with sets := mapCells MapSet.flush m.sets, slot := .empty }

/-! ### Requests (R40, R43, R50, R51, R52) -/

/-- MAP_STAGE as the Split Map judges it (R40). -/
def stageEntry : Owner := fun _ p s =>
  match keyOfByte (u8 p 0), keyOfByte (u8 p 1), keyOfByte (u8 p 2) with
  | some load, some grade, some speed =>
    let policy : Policy :=
      { share := min (u16 p 3) 1000, slipTarget := min (u8 p 5) 250, gain := u8 p 6
        transferCap := min (u16 p 7) 16000 }
    let clamped := decide (policy.share ≠ u16 p 3 ∨ policy.slipTarget ≠ u8 p 5 ∨ policy.transferCap ≠ u16 p 7)
    ({ s with map := { s.map with
        stage := { key := { load := load, grade := grade, speed := speed }, policy := policy }
        staged := true } },
     some (bare (if clamped then .clamped else .ok)))
  | _, _, _ => (s, some (bare .badField))

/-- The way choice of a way byte: 4 is AUTO (R42). -/
def wayChoiceOf (n : Nat) : Option WayChoice :=
  if h : n < 4 then some (.way ⟨n, h⟩) else if n = 4 then some .auto else none

/-- The set of a set byte (R42). -/
def setOfByte (n : Nat) : Option (Fin 16) := if h : n < 16 then some ⟨n, h⟩ else none

/-- The complement byte equals 255 minus the location, set × 16 + way modulo 256 (R42). -/
def complementFits (set way complement : Nat) : Bool := complement = 255 - (set * 16 + way) % 256

/-- MAP_COMMIT as the Split Map judges it (R42, R43). -/
def commitEntry : Owner := fun _ p s =>
  if !complementFits (u8 p 0) (u8 p 1) (u8 p 2) then
    ({ s with map := { s.map with staged := false } }, some (bare .badComplement))
  else
    match setOfByte (u8 p 0), wayChoiceOf (u8 p 1) with
    | some n, some choice =>
      if !s.map.staged then (s, some (bare .wrongState))
      else if s.map.pendingFlag then (s, some (bare .pendingBusy))
      else ({ s with map := { s.map with slot := .write s.map.stage n choice, staged := false } },
            some (bare .ok))
    | _, _ => (s, some (bare .badField))

/-- MAP_FLUSH as the Split Map judges it (R50). -/
def flushMap : Owner := fun _ _ s =>
  if s.map.pendingFlag then (s, some (bare .pendingBusy))
  else ({ s with map := { s.map with slot := .flush } }, some (bare .ok))

/-- The LRU order in a byte, two bits a way, most recently used in bits 0 and 1 (09 §9.6). -/
def lruByte (lru : List (Fin 4)) : Byte := BitVec.ofNat 8 (lru.foldr (fun w n => w.val + 4 * n) 0)

/-- The valid mask: bit n set when way n is valid (09 §9.6). -/
def MapSet.validMask (m : MapSet) : Byte := flagByte (allWays.map fun w => (m.entry w).valid)

/-- The three key bytes of an entry (R51). -/
def EntryKey.bytes (k : EntryKey) : List Byte :=
  byte1 k.load.toNat ++ byte1 k.grade.toNat ++ byte1 k.speed.toNat

/-- The policy fields in a payload: share, slip target, gain, transfer cap (09 §9.6). -/
def Policy.bytes (p : Policy) : List Byte :=
  nat2 p.share ++ byte1 p.slipTarget ++ byte1 p.gain ++ nat2 p.transferCap

/-- MAP_READ as the Split Map answers it (R51). -/
def readEntry : Owner := fun _ p s =>
  match setOfByte (u8 p 0), wayChoiceOf (u8 p 1) with
  | some n, some (.way w) =>
    let m := s.map.set n
    let e := m.entry w
    (s, some { status := .ok
               data := byte1 e.valid.toNat ++ e.content.key.bytes ++ e.content.policy.bytes ++
                 [lruByte m.lru, m.validMask] })
  | _, _ => (s, some (bare .badField))

/-- A band byte (R52). -/
def bandOf (n : Nat) : Option (Fin 8) := if h : n < 8 then some ⟨n, h⟩ else none

/-- MAP_PROBE as the Split Map answers it (R52). -/
def probeMap : Owner := fun _ p s =>
  match bandOf (u8 p 0), flagOfByte (u8 p 1), bandOf (u8 p 2), bandOf (u8 p 3), bandOf (u8 p 4) with
  | some mode, some trailer, some load, some grade, some speed =>
    let k : MapKey := { set := setOf mode trailer, load := load, grade := grade, speed := speed }
    let m := s.map.set k.set
    match m.select k with
    | some w => (s, some { status := .ok
                           data := byte1 1 ++ byte1 w.val ++ (m.entry w).content.policy.bytes })
    | none   => (s, some { status := .ok
                           data := byte1 0 ++ byte1 0 ++ s.act.active.defaultPolicy.bytes })
  | _, _, _, _, _ => (s, some (bare .badField))

/-- MAP_STAGE (R40, R157). -/
def execMapStage (s : State) : Result := serve .mapStage stageEntry s

/-- MAP_COMMIT (R42, R43, R157). -/
def execMapCommit (s : State) : Result := serve .mapCommit commitEntry s

/-- MAP_FLUSH (R50, R157). -/
def execMapFlush (s : State) : Result := serve .mapFlush flushMap s

/-- MAP_READ (R51, R157). -/
def execMapRead (s : State) : Result := serve .mapRead readEntry s

/-- MAP_PROBE (R52, R157). -/
def execMapProbe (s : State) : Result := serve .mapProbe probeMap s

end Sys2Proof.Machine
end

