-- ==== Sys2Proof/Machine/Pass.lean ====
section
/-! DEFINITION. The allocation pass: the key (R9) and stages 2 to 12 (R8, R11 to R29), each a function of
what the pass took at its start, and the meaning of PASS_COMPLETION. -/

namespace Sys2Proof.Machine

/-! ### Stage 3: the key (R9) -/

/-- The load band of a gross mass (R9). -/
def loadBand (mass : Nat) : Fin 8 := ⟨min (mass / 150) 7, by omega⟩

/-- The grade band of a grade (R9). -/
def gradeBand (grade : Int) : Fin 8 := ⟨min (clampInt 0 7 ((grade + 400).tdiv 100)).toNat 7, by omega⟩

/-- The speed band of a magnitude (R9). -/
def speedBandOf (magnitude : Nat) : Fin 8 := ⟨min (magnitude / 800) 7, by omega⟩

/-- The reference can be used: fresh and valid (R9, R13). -/
def refUsable (r : Marked ReferenceRec) : Bool := r.fresh && r.fields.valid

/-- The magnitude of a latched speed, 0 for an INVALID one (R9). -/
def Latched.magnitude (l : Latched) : Nat := if l.state = .invalid then 0 else l.speed.natAbs

/-- The speed band: the reference's, or the larger latched axle speed's (R9). -/
def speedBand (r : Marked ReferenceRec) (latched : PerAxle Latched) : Fin 8 :=
  speedBandOf (if refUsable r then r.fields.magnitude
    else max latched.front.magnitude latched.rear.magnitude)

/-- The lookup key of a pass (R9). -/
def passKey (i : ImageCopy) (latched : PerAxle Latched) : MapKey :=
  let d := i.demand.fields
  { set := setOf d.mode d.trailer, load := loadBand d.mass, grade := gradeBand d.grade
    speed := speedBand i.reference latched }

/-! ### Stages 2, 4 and 5 -/

/-- Stage 2: the conditioned demand (R8). -/
def PassCopy.demand (p : PassCopy) : Int :=
  match p.allocState with
  | .run =>
    if p.image.demand.fresh then p.image.demand.fields.demand
    else moveToward p.carried.demand 0 (p.config.val .demandDecay)
  | .standby | .rampdown | .forcedOff => 0

/-- Stage 4: the applied share (R11). -/
def PassCopy.share (p : PassCopy) : Nat :=
  (moveToward p.carried.share p.policy.share (p.config.val .shareSlew)).toNat

/-- Stage 5: the base split T_a0 (R12). -/
def PassCopy.base (p : PassCopy) : PerAxle Int :=
  let front := (p.demand * p.share).tdiv 1000
  { front := front, rear := p.demand - front }

/-! ### Stage 6: slip ratios (R13, R14) -/

/-- The direction sign σ (R13). -/
def Direction.sigma : Direction → Int
  | .forward => 1
  | .reverse => -1

/-- σ of the pass (R13). -/
def PassCopy.sigma (p : PassCopy) : Int := p.image.reference.fields.direction.sigma

/-- The signed reference speed ω_ref (R13). -/
def PassCopy.omegaRef (p : PassCopy) : Int := p.sigma * p.image.reference.fields.magnitude

/-- The axle is marked NO_SLIP (R13). -/
def PassCopy.noSlip (p : PassCopy) (a : Axle) : Bool :=
  !refUsable p.image.reference || decide ((p.latched.get a).state = .invalid)

/-- The slip ratio s_a (R13, R14). -/
def PassCopy.slip (p : PassCopy) (a : Axle) : Int :=
  if p.noSlip a then 0
  else clampInt (-1000) 1000
    ((((p.latched.get a).speed - p.omegaRef) * p.sigma * 1000).tdiv (max |p.omegaRef| (p.config.val .speedFloor)))

/-! ### Stage 7: slip cut and transfer (R15, R16, R17) -/

/-- The axle is slipping: overspinning or overbraking; it is then slip-cut (R15). -/
def PassCopy.slipping (p : PassCopy) (a : Axle) : Bool :=
  let t := p.base.get a
  let tgt : Int := p.policy.slipTarget
  !p.noSlip a &&
    (decide (0 < p.sigma * t ∧ tgt < p.slip a) || decide (p.sigma * t < 0 ∧ p.slip a < -tgt))

/-- The cut C_a (R16). -/
def PassCopy.cut (p : PassCopy) (a : Axle) : Int :=
  if p.slipping a then min |p.base.get a| (p.policy.gain * (|p.slip a| - p.policy.slipTarget)) else 0

/-- The axle carries no NO_TRANSFER limit (R17, R20). -/
def PassCopy.mayReceive (p : PassCopy) (a : Axle) : Bool := !carriesNoTransfer p.limits a

/-- What an axle receives from the other one (R17). -/
def PassCopy.received (p : PassCopy) (a : Axle) : Int :=
  if p.slipping a.other && !p.slipping a && p.mayReceive a then
    (p.base.get a.other).sign * min (p.cut a.other) p.policy.transferCap
  else 0

/-- T_a1 (R16, R17). -/
def PassCopy.afterSlip (p : PassCopy) (a : Axle) : Int :=
  p.base.get a - (p.base.get a).sign * p.cut a + p.received a

/-! ### Stage 8: bounds and spill (R18, R19, R20) -/

/-- The drive bound U_a (R18, R69). -/
def PassCopy.driveBound (p : PassCopy) (a : Axle) : Nat :=
  let e := p.image.envelope.get a
  smallest (if e.fresh && e.fields.ready then e.fields.drive else 0) (ceilings p.limits .driveCeil a)

/-- The regeneration bound G_a (R18, R69). -/
def PassCopy.regenBound (p : PassCopy) (a : Axle) : Nat :=
  let e := p.image.envelope.get a
  smallest (if e.fresh && e.fields.ready then e.fields.regen else 0) (ceilings p.limits .regenCeil a)

/-- A torque clipped to an axle's bounds (R19). -/
def PassCopy.clip (p : PassCopy) (a : Axle) (t : Int) : Int :=
  clampInt (-(p.regenBound a : Int)) (p.driveBound a) t

/-- The excess E_a of the first clip (R19). -/
def PassCopy.excess (p : PassCopy) (a : Axle) : Int := p.afterSlip a - p.clip a (p.afterSlip a)

/-- The axle is eligible to receive spill (R20). -/
def PassCopy.eligible (p : PassCopy) (a : Axle) : Bool := !p.slipping a && p.mayReceive a

/-- The spilled value (R20). -/
def PassCopy.spilled (p : PassCopy) (a : Axle) : Int :=
  p.clip a (p.afterSlip a) + if p.eligible a then p.excess a.other else 0

/-- T_a3 (R20). -/
def PassCopy.target (p : PassCopy) (a : Axle) : Int := p.clip a (p.spilled a)

/-- Either clip of stage 8 changed its value (R20). -/
def PassCopy.clipped8 (p : PassCopy) (a : Axle) : Bool :=
  decide (p.clip a (p.afterSlip a) ≠ p.afterSlip a ∨ p.target a ≠ p.spilled a)

/-! ### Stage 9: rate, reversal and hold (R21 to R26) -/

/-- The rate bound ρ_a (R21, R70). -/
def PassCopy.rate (p : PassCopy) (a : Axle) : Nat :=
  smallest (p.config.val .rateLimit) (ceilings p.limits .rateCeil a)

/-- The three cases of stage 9 for one axle: T_prev, T_a3, ρ_a, REVERSAL_HOLD and the carried state
give T_a4 and the carried state (R22, R23, R24). -/
def stage9 (prev target rate : Int) (reversalHold : Nat) (c : AxleCarry) : Int × AxleCarry :=
  if prev ≠ 0 ∧ (target = 0 ∨ signOf target ≠ signOf prev) then
    (moveToward prev 0 rate, c)
  else if prev = 0 ∧ target ≠ 0 ∧ c.lastSign ≠ .none ∧ signOf target ≠ c.lastSign then
    let counter := if c.holdActive then c.holdCounter else reversalHold
    if 0 < counter then (0, { c with holdActive := true, holdCounter := counter - 1 })
    else (moveToward 0 target rate,
          { lastSign := signOf target, holdActive := false, holdCounter := counter })
  else
    let t := moveToward prev target rate
    (t, { c with lastSign := if t = 0 then c.lastSign else signOf t, holdActive := false })

/-- Stage 9 of an axle up to its case (R22 to R24). -/
def PassCopy.stepped (p : PassCopy) (a : Axle) : Int × AxleCarry :=
  stage9 (p.prev.get a) (p.target a) (p.rate a) (p.config.val .reversalHold) (p.carried.axle.get a)

/-- T_a4 after the clip to the stage 8 bounds (R26). -/
def PassCopy.clipped9 (p : PassCopy) (a : Axle) : Int := p.clip a (p.stepped a).1

/-- The axle's magnitude grew over its T_prev in this pass (R26). -/
def PassCopy.grew (p : PassCopy) (a : Axle) : Bool := decide (|p.prev.get a| < |p.clipped9 a|)

/-- The axle the total ceiling reduces, if any: the one that grew, when the sum exceeds 16000 (R26;
log 13). -/
def PassCopy.ceilingAxle (p : PassCopy) : Option Axle :=
  if |p.clipped9 .front| + |p.clipped9 .rear| ≤ 16000 then none
  else if p.grew .front then some .front
  else if p.grew .rear then some .rear
  else none

/-- T_a4 after the total ceiling (R26). -/
def PassCopy.limited (p : PassCopy) (a : Axle) : Int :=
  if p.ceilingAxle = some a then (p.clipped9 a).sign * max 0 (16000 - |p.clipped9 a.other|)
  else p.clipped9 a

/-- The clip or the total ceiling of stage 9 changed the axle's value (R26). -/
def PassCopy.bound9 (p : PassCopy) (a : Axle) : Bool :=
  decide (p.clipped9 a ≠ (p.stepped a).1 ∨ p.limited a ≠ p.clipped9 a)

/-! ### Stage 10: the interlock (R27) -/

/-- The two values are nonzero and of opposite sign (R27). -/
def opposed (f r : Int) : Bool := decide (0 < f ∧ r < 0 ∨ f < 0 ∧ 0 < r)

/-- The axle's sign differs from its last sign as it stood before the pass (R27). -/
def PassCopy.turned (p : PassCopy) (a : Axle) : Bool :=
  signOf (p.limited a) ≠ (p.carried.axle.get a).lastSign

/-- The axle the interlock sets to 0, if any (R27; log 14). -/
def PassCopy.interlocked (p : PassCopy) : Option Axle :=
  if opposed (p.limited .front) (p.limited .rear) then
    if p.turned .front then some .front
    else if p.turned .rear then some .rear
    else if p.prev.front = 0 then some .front
    else some .rear
  else none

/-- T_a4 as interlocked (R27). -/
def PassCopy.locked (p : PassCopy) (a : Axle) : Int := if p.interlocked = some a then 0 else p.limited a

/-- The last sign and hold of an axle as interlocked (R27). -/
def PassCopy.lockedCarry (p : PassCopy) (a : Axle) : AxleCarry :=
  if p.interlocked = some a then p.carried.axle.get a else (p.stepped a).2

/-! ### Stages 11 and 12 (R28, R29) -/

/-- T_a (R28, R29). -/
def PassCopy.command (p : PassCopy) (forced : Bool) (a : Axle) : Int := if forced then 0 else p.locked a

/-- The last sign and hold an axle carries on (R28, R29). -/
def PassCopy.carry (p : PassCopy) (forced : Bool) (a : Axle) : AxleCarry :=
  if forced then { p.lockedCarry a with lastSign := .none, holdActive := false } else p.lockedCarry a

/-- The flags of an axle (R15, R18, R20, R25, R26, R28). -/
def PassCopy.flags (p : PassCopy) (forced : Bool) (a : Axle) : AxleFlags :=
  { slipCut := p.slipping a
    bound := p.clipped8 a || p.bound9 a
    hold := !forced && ((p.lockedCarry a).holdActive || decide (p.interlocked = some a))
    envStale := !(p.image.envelope.get a).fresh }

/-- The carried state of stage 12 (R29). -/
def PassCopy.carriedOut (p : PassCopy) (forced : Bool) : Carried :=
  { demand := p.demand, share := p.share, axle := PerAxle.of (p.carry forced) }

/-- The published record of stage 12 (R29). -/
def PassCopy.publish (p : PassCopy) (forced : Bool) : Published :=
  { torque := PerAxle.of (p.command forced)
    shortfall := p.demand - p.command forced .front - p.command forced .rear
    demand := p.demand
    share := p.share
    slip := PerAxle.of p.slip
    flags := PerAxle.of (p.flags forced)
    noRef := !refUsable p.image.reference
    refStale := !p.image.reference.fresh
    demandStale := !p.image.demand.fresh
    mapMiss := !p.mapResult.hit
    mapResult := p.mapResult }

/-- Stage 11 acts (R28). -/
def State.forced (s : State) (x : Pass) : Bool :=
  decide (x.copy.allocState = .standby) || decide (x.copy.allocState = .forcedOff) ||
    decide (s.act.state = .forcedOff) || x.toffTaken

/-- Stage 12: the record and the carried state are set together, and no pass is in flight (R29, R2). -/
def State.publish (s : State) (x : Pass) : State :=
  { s with ale := { carried := x.copy.carriedOut (s.forced x), published := x.copy.publish (s.forced x)
                    pass := none } }

/-- The completion of a pass: publication (R29), ACT's event (R128), the reports (R142). -/
def State.complete (s : State) (x : Pass) : State :=
  ((s.publish x).endRampdown).reportCompletion x.copy.latched

/-- PASS_COMPLETION (R29): occurs when a pass is in flight (log 5); its moment, up to 40 µs after the
boundary, is open (R2; log 4). -/
def execPassCompletion (s : State) : Result :=
  .next (s.live fun s => match s.ale.pass with
    | none   => s
    | some x => s.complete x)

end Sys2Proof.Machine
end

