-- ==== Sys2Proof/Machine/Speed.lean ====
section
/-! DEFINITION. The Axle Speed Unit: decoding, edge history, windows, the index check, sensor health and
the latched result (chapter 4), and the meanings of its commands. -/

namespace Sys2Proof.Machine

/-! ### Decoding (R75, R76) -/

/-- The place of a level pair (A, B) on the forward sequence (0,0), (1,0), (1,1), (0,1) (R75). -/
def quadPlace : Bool → Bool → Nat
  | false, false => 0
  | true,  false => 1
  | true,  true  => 2
  | false, true  => 3

/-- The direction of a counted edge: one place along the sequence is FORWARD (R75). -/
def quadDirection (a b a' b' : Bool) : Direction :=
  if (quadPlace a b + 1) % 4 = quadPlace a' b' then .forward else .reverse

/-- FORWARD counts +1, REVERSE −1 (R75). -/
def Direction.count : Direction → Int
  | .forward => 1
  | .reverse => -1

/-- A count saturates at ±32767 (R75). -/
def saturate (n : Int) : Int := clampInt (-32767) 32767 n

/-- The decoder's direction for a change of one line (R75). -/
def Asu.edgeDirection (u : Asu) : Phase → Direction
  | .a => quadDirection u.levelA u.levelB (!u.levelA) u.levelB
  | .b => quadDirection u.levelA u.levelB u.levelA (!u.levelB)

/-- The decoder takes the level pair after a change of one line (R75). -/
def Asu.toggle (u : Asu) : Phase → Asu
  | .a => { u with levelA := !u.levelA }
  | .b => { u with levelB := !u.levelB }

/-- A counted edge enters the history; a change of direction empties it first and sets the
direction-changed flag (R77). -/
def Asu.enterEdge (u : Asu) (d : Direction) (now : Time) : Asu :=
  if u.lastDir = none ∨ u.lastDir = some d then
    { u with history := (({ time := now, dir := d } : EdgeEntry) :: u.history).take 5 }
  else { u with history := [{ time := now, dir := d }], dirChanged := true }

/-- A counted edge (R75). -/
def Asu.countEdge (u : Asu) (p : Phase) (now : Time) : Asu :=
  let d := u.edgeDirection p
  { (u.toggle p).enterEdge d now with
      windowCount := saturate (u.windowCount + d.count)
      sinceIndex := saturate (u.sinceIndex + d.count)
      lastDir := some d }

/-- A phase error (R76). -/
def Asu.takePhaseError (u : Asu) : Asu :=
  { u with levelA := !u.levelA, levelB := !u.levelB, phaseError := true, history := [], armed := false }

/-- The history has held its newest entry for 65536 µs (R77; log 15). -/
def Asu.historyExpired (u : Asu) (now : Time) : Bool :=
  match u.history with
  | []     => false
  | e :: _ => historyMicros ≤ elapsed e.time now

/-! ### Sensor health (R86, R87) -/

/-- Good evidence (R87). -/
def Asu.goodEvidence (u : Asu) : Asu :=
  match u.health with
  | .fault =>
    if u.goodRun + 1 < 16 then { u with goodRun := u.goodRun + 1 }
    else { u with goodRun := 16, health := .good, faultCount := 0 }
  | .good | .suspect => { u with faultCount := 0, goodRun := min (u.goodRun + 1) 16, health := .good }

/-- Bad evidence (R87). -/
def Asu.badEvidence (u : Asu) : Asu :=
  match u.health with
  | .fault => { u with faultCount := 3, goodRun := 0 }
  | .good | .suspect =>
    { u with faultCount := min (u.faultCount + 1) 3, goodRun := 0
             health := if u.faultCount + 1 < 3 then .suspect else .fault }

/-! ### The index check (R83, R84) -/

/-- The compared count matches CPR within INDEX_TOLERANCE (R84). -/
def indexMatches (count : Int) (cpr tolerance : Nat) : Bool :=
  decide ((count.natAbs : Int) - cpr ≤ tolerance ∧ (cpr : Int) - count.natAbs ≤ tolerance)

/-- A Z rising edge (R83, R84). -/
def Asu.indexEdge (u : Asu) (enabled : Bool) (cpr tolerance : Nat) : Asu :=
  if !enabled then { u with sinceIndex := 0, dirChanged := false }
  else if !u.armed then { u with sinceIndex := 0, dirChanged := false, armed := true }
  else if u.dirChanged then { u with sinceIndex := 0, dirChanged := false }
  else if indexMatches u.sinceIndex cpr tolerance then { u.goodEvidence with sinceIndex := 0 }
  else { u.badEvidence with sinceIndex := 0 }

/-! ### The speed of a window (R78 to R82) -/

/-- The COUNT method (R80). -/
def countSpeed (delta : Int) (cpr w : Nat) : Int := (delta * 240000000).tdiv ((cpr : Int) * w)

/-- The EDGE method: five entries that span no more than 65535 µs, the newest no more than 65535 µs old at
the close; none when it does not apply. A close taken before an expiry due at the same time finds an older
newest edge, and its window reads STOPPED (R79, R81, R82). -/
def edgeSpeed (history : List EdgeEntry) (cpr : Nat) (now : Time) : Option Int :=
  match history with
  | [e0, _, _, _, e4] =>
    if elapsed e4.time e0.time ≤ 65535 ∧ elapsed e0.time now ≤ 65535 then
      let dt := max (max (elapsed e4.time e0.time) (elapsed e0.time now)) 1
      some (e0.dir.count * ((960000000 / (cpr * dt) : Nat) : Int))
    else none
  | _ => none

/-- The window's speed: the first of COUNT, EDGE and STOPPED that applies, clamped (R79, R82). -/
def Asu.windowSpeed (u : Asu) (cpr : Nat) (now : Time) : Int :=
  let w := elapsed u.windowStart now
  clampInt (-65535) 65535
    (if 16 ≤ u.windowCount.natAbs ∧ 1 ≤ w then countSpeed u.windowCount cpr w
     else (edgeSpeed u.history cpr now).getD 0)

/-! ### Window close and latch (R78, R86, R88, R89) -/

/-- The evidence of a closing window (R86). -/
def Asu.windowEvidence (u : Asu) (indexEnabled : Bool) : Asu :=
  if u.phaseError then u.badEvidence else if indexEnabled then u else u.goodEvidence

/-- The sensor is usable for the window being closed, after its evidence has been counted (R88). -/
def Asu.usable (u : Asu) (indexEnabled : Bool) : Bool :=
  !u.phaseError && (u.windowEvidence indexEnabled).health != .fault

/-- The window closes: evidence, the beginning of the latched result, and the next window (R78, R88). -/
def Asu.closeWindow (u : Asu) (cpr : Nat) (indexEnabled : Bool) (now : Time) : Asu :=
  let v := u.windowEvidence indexEnabled
  { v with
      windowCount := 0, windowStart := now, phaseError := false
      latched :=
        if u.usable indexEnabled then { speed := u.windowSpeed cpr now, state := .sensor, health := v.health }
        else { u.latched with health := v.health } }

/-- The substitute speed from the inverter's motor speed (R89). -/
def substituteSpeed (motorSpeed : Int) (ratio : Nat) : Int :=
  clampInt (-65535) 65535 ((motorSpeed * 4000).tdiv ratio)

/-- The latched result is completed after the close when the sensor was not usable (R88, R89). -/
def Asu.completeLatch (u : Asu) (usable : Bool) (env : Marked EnvelopeRec) (ratio : Nat) : Asu :=
  if usable then u
  else if env.fresh then
    { u with latched := { u.latched with speed := substituteSpeed env.fields.motorSpeed ratio
                                         state := .substitute } }
  else { u with latched := { u.latched with speed := 0, state := .invalid } }

/-! ### The commands -/

/-- COUNTED_EDGE (R75, R77). The pin stands at the line's new level (log 7). -/
def execCountedEdge (a : Axle) (p : Phase) (s : State) : Result :=
  .next (s.live fun s =>
    let u := (s.asuOf a).countEdge p s.timeBase
    (s.modAsu a fun _ => u).modSensorPins a fun q => { q with a := u.levelA, b := u.levelB })

/-- PHASE_ERROR (R76). -/
def execPhaseError (a : Axle) (s : State) : Result :=
  .next (s.live fun s =>
    let u := (s.asuOf a).takePhaseError
    (s.modAsu a fun _ => u).modSensorPins a fun q => { q with a := u.levelA, b := u.levelB })

/-- EDGE_HISTORY_EXPIRY (R77): occurs when the newest entry is 65536 µs old (log 5, 15). -/
def execEdgeHistoryExpiry (a : Axle) (s : State) : Result :=
  .next (s.live fun s => s.when ((s.asuOf a).historyExpired s.timeBase) fun s =>
    s.modAsu a fun u => { u with history := [] })

/-- Z_RISING_EDGE (R83 to R87, R92). The command is taken as a rise of the line whatever level the model
holds for it: DESIGN CHOICE (log 24). -/
def execZRisingEdge (a : Axle) (s : State) : Result :=
  .next (s.live fun s =>
    let c := s.act.active
    (s.modAsu a fun u =>
      { u.indexEdge (c.indexUse a) (c.cpr a) (c.val .indexTolerance) with levelZ := true }).modSensorPins a
        fun q => { q with z := true })

end Sys2Proof.Machine
end

