-- ==== Sys2Proof/Machine/Timer.lean ====
section
/-! DEFINITION. The Period Timer: qualified edges, the one-shot, the internal timer, the take gate
(R110 to R122), the start of a pass with its take (R1), and the meanings of its commands. -/

namespace Sys2Proof.Machine

/-! ### The start of a pass (R1) -/

/-- Both ASUs close their windows with the configuration that stands active before the take (R78, R91). -/
def State.closeWindows (s : State) (time : Time) : State :=
  let c := s.act.active
  { s with asu := PerAxle.of fun a => (s.asu.get a).closeWindow (c.cpr a) (c.indexUse a) time }

/-- MAP applies its pending operation (R1 item 2, R45). -/
def State.applyMap (s : State) : State := { s with map := s.map.applyPending }

/-- IMG advances the ages (R1 item 3, R101). -/
def State.advanceImage (s : State) : State := { s with image := s.image.advance }

/-- The ASUs complete their latched results from the copy (R89). `usable` is what each close found, and
`config` the set that governed the windows. -/
def State.completeLatches (s : State) (usable : PerAxle Bool) (copy : ImageCopy) (config : ConfigSet) : State :=
  { s with asu := PerAxle.of fun a =>
      (s.asu.get a).completeLatch (usable.get a) (copy.envelope.get a) (config.ratio a) }

/-- LIM consumes one pass of lifetime (R1 item 4, R62, R63). -/
def State.consumeLifetime (s : State) : State := { s with limits := consumeLimits s.limits }

/-- PTM loads its copies of SYNC_EDGE and SYNC_DIVIDER; a difference zeroes the divider count (R121). -/
def State.loadSync (s : State) : State :=
  let select := EdgeSelect.ofValue (s.act.active.val .syncEdge)
  let divider := s.act.active.val .syncDivider
  { s with ptm := { s.ptm with
      select := select, divider := divider
      dividerCount := if select = s.ptm.select ∧ divider = s.ptm.divider then s.ptm.dividerCount else 0 } }

/-- What the ASUs found at the close: whether each sensor is usable for its window (R88). -/
def State.sensorsUsable (s : State) : PerAxle Bool :=
  PerAxle.of fun a => (s.asu.get a).usable (s.act.active.indexUse a)

/-- The start of a pass: the take in the order of R1, the lookup (R38), and the pass in flight. -/
def State.startPass (s : State) (usable : PerAxle Bool) (config : ConfigSet) : State :=
  let s1 := s.movePending.applyMap.advanceImage
  let image := s1.imageCopy
  let s2 := s1.completeLatches usable image config
  let limits := s2.limits
  let s3 := s2.consumeLifetime.loadSync
  let latched := PerAxle.of fun a => (s3.asu.get a).latched
  let found := s3.map.lookup (passKey image latched) s3.act.active.defaultPolicy
  let copy : PassCopy :=
    { config := s3.act.active, allocState := s3.act.state, policy := found.2.1, mapResult := found.2.2
      image := image, limits := limits, latched := latched, carried := s3.ale.carried
      prev := s3.ale.published.torque }
  { s3 with
      map := found.1
      ale := { s3.ale with pass := some { copy := copy, toffTaken := false, clocks := 0
                                          latency := min (Config.passLatency s3.freeIndex) passClocks } }
      freeIndex := s3.freeIndex + 1 }

/-! ### The take gate (R118, R119, R120) -/

/-- A boundary is taken: the count, the close of both windows, the pass (R118). -/
def State.takeBoundary (s : State) (time : Time) : State :=
  let usable := s.sensorsUsable
  let config := s.act.active
  let s1 := { s with ptm := { s.ptm with periodCount := s.ptm.periodCount + 1, lastBoundary := time } }
  (s1.closeWindows time).startPass usable config

/-- A boundary is skipped: the SKIPPED latch (R118, R119). -/
def State.skipBoundary (s : State) (time : Time) : State :=
  { s with ptm := { s.ptm with skipped := true, lastBoundary := time } }

/-- A period boundary at the take gate (R118). -/
def State.boundary (s : State) (time : Time) : State :=
  match s.ale.pass with
  | none   => s.takeBoundary time
  | some _ => s.skipBoundary time

/-! ### Qualified edges (R110, R111) -/

/-- The edge is of the selected polarity (R110). -/
def EdgeSelect.picks : EdgeSelect → Bool → Bool
  | .rising,  up => up
  | .falling, up => !up
  | .both,    _  => true

/-- The edge is qualified: none before it, or 20 µs or more after the last qualified one (R110). -/
def Ptm.qualifies (p : Ptm) (rising : Bool) (now : Time) : Bool :=
  p.select.picks rising &&
    match p.lastQualified with
    | none   => true
    | some t => decide (qualifyMicros ≤ elapsed t now)

/-- Steps 1 to 3 of R111: the reacquire count, the one-shot, the divider count. -/
def Ptm.countEdge (p : Ptm) (now : Time) (timeout : Nat) : Ptm :=
  { p with
      lastQualified := some now
      reacquire := if p.mode = .internal ∧ p.oneShot.isSome then min (p.reacquire + 1) 16 else p.reacquire
      oneShot := some (later now timeout)
      dividerCount := if p.divider ≤ p.dividerCount + 1 then 0 else p.dividerCount + 1 }

/-- The edge completes the divider (R111 step 3). -/
def Ptm.completes (p : Ptm) : Bool := decide (p.divider ≤ p.dividerCount + 1)

/-- The reacquire boundary: SYNCED again, the internal timer stopped, the reacquire count 0 (R117). -/
def Ptm.reacquired (p : Ptm) : Ptm := { p with mode := .synced, timer := none, reacquire := 0 }

/-- A qualified edge (R111). -/
def State.qualifiedEdge (s : State) : State :=
  let p := s.ptm.countEdge s.timeBase (s.act.active.val .syncTimeout)
  let s1 := { s with ptm := p }
  if s.ptm.completes then
    match p.mode with
    | .synced => s1.boundary s.timeBase
    | .internal =>
      if p.reacquire = 16 then ({ s with ptm := p.reacquired } : State).boundary s.timeBase else s1
  else s1

/-- SYNC_IN_EDGE (R110, R111, R113, R117, R118): an edge of the selected polarity is qualified or
discarded; an edge of the other polarity, and a discarded one, change only the line's level (log 7, 23).
The command is taken as the edge it names whatever level the model holds for the line, so one to the level
the line already has may be qualified: DESIGN CHOICE (log 24). -/
def execSyncInEdge (rising : Bool) (s : State) : Result :=
  .next (s.live fun s =>
    let s1 := { s with ptm := { s.ptm with level := rising }, pins := { s.pins with syncIn := rising } }
    s1.when (s.ptm.qualifies rising s.timeBase) State.qualifiedEdge)

/-! ### The one-shot (R112, R114) -/

/-- The line is lost: INTERNAL, the reacquire count 0, and the first internal boundary at the last
boundary time plus INTERNAL_PERIOD, or the expiry itself when that instant has passed (R114; log 11). -/
def State.loseLine (s : State) : State :=
  let now := s.timeBase
  let period := s.act.active.val .internalPeriod
  if elapsed s.ptm.lastBoundary now < period then
    { s with ptm := { s.ptm with mode := .internal, reacquire := 0
                                 timer := some (later s.ptm.lastBoundary period) } }
  else
    State.boundary { s with ptm := { s.ptm with mode := .internal, reacquire := 0
                                                timer := some (later now period) } } now

/-- ONE_SHOT_EXPIRY (R112, R114): occurs when the one-shot is running and the time base stands at its
expiry time (log 5). -/
def execOneShotExpiry (s : State) : Result :=
  .next (s.live fun s => s.when (s.ptm.oneShot = some s.timeBase) fun s =>
    let s1 := { s with ptm := { s.ptm with oneShot := none } }
    match s.ptm.mode with
    | .synced   => s1.loseLine
    | .internal => { s1 with ptm := { s1.ptm with reacquire := 0 } })

/-! ### The internal timer (R115) -/

/-- INTERNAL_TIMER_EXPIRY (R115, R118): occurs when the timer is running and the time base stands at
its next boundary (log 5). The next boundary is scheduled with the INTERNAL_PERIOD active before the
pass start of this boundary (R122; log 11). -/
def execInternalTimerExpiry (s : State) : Result :=
  .next (s.live fun s => s.when (s.ptm.timer = some s.timeBase) fun s =>
    let next := later s.timeBase (s.act.active.val .internalPeriod)
    State.boundary { s with ptm := { s.ptm with timer := some next } } s.timeBase)

end Sys2Proof.Machine
end

