-- ==== Sys2Proof/Machine/Dispatch.lean ====
section
/-! DEFINITION. One arm per row of spec/opcode_table.json, each one call of the row's meaning. -/

namespace Sys2Proof.Machine

def exec (i : Instr) (s : State) : Host.Outcome State Fault Refusal :=
  match i with
  | .reset => Sys2Proof.Machine.execReset s
  | .resetBreakEnd link => Sys2Proof.Machine.execResetBreakEnd link s
  | .syncInEdge rising => Sys2Proof.Machine.execSyncInEdge rising s
  | .oneShotExpiry => Sys2Proof.Machine.execOneShotExpiry s
  | .internalTimerExpiry => Sys2Proof.Machine.execInternalTimerExpiry s
  | .passCompletion => Sys2Proof.Machine.execPassCompletion s
  | .toffNPinChange high => Sys2Proof.Machine.execToffNPinChange high s
  | .toffNFalling => Sys2Proof.Machine.execToffNFalling s
  | .toffNRising => Sys2Proof.Machine.execToffNRising s
  | .countedEdge axle phase => Sys2Proof.Machine.execCountedEdge axle phase s
  | .phaseError axle => Sys2Proof.Machine.execPhaseError axle s
  | .edgeHistoryExpiry axle => Sys2Proof.Machine.execEdgeHistoryExpiry axle s
  | .zRisingEdge axle => Sys2Proof.Machine.execZRisingEdge axle s
  | .byteTaken link data marker stopError => Sys2Proof.Machine.execByteTaken link data marker stopError s
  | .gapExpiry link => Sys2Proof.Machine.execGapExpiry link s
  | .linkBreak link => Sys2Proof.Machine.execLinkBreak link s
  | .frameTransmitEnd link => Sys2Proof.Machine.execFrameTransmitEnd link s
  | .badKindFrame => Sys2Proof.Machine.execBadKindFrame s
  | .demand => Sys2Proof.Machine.execDemand s
  | .envelope => Sys2Proof.Machine.execEnvelope s
  | .reference => Sys2Proof.Machine.execReference s
  | .limitPost => Sys2Proof.Machine.execLimitPost s
  | .limitWithdraw => Sys2Proof.Machine.execLimitWithdraw s
  | .limitList => Sys2Proof.Machine.execLimitList s
  | .mapStage => Sys2Proof.Machine.execMapStage s
  | .mapCommit => Sys2Proof.Machine.execMapCommit s
  | .mapFlush => Sys2Proof.Machine.execMapFlush s
  | .mapRead => Sys2Proof.Machine.execMapRead s
  | .mapProbe => Sys2Proof.Machine.execMapProbe s
  | .configWrite => Sys2Proof.Machine.execConfigWrite s
  | .configRead => Sys2Proof.Machine.execConfigRead s
  | .allocEnable => Sys2Proof.Machine.execAllocEnable s
  | .allocDisable => Sys2Proof.Machine.execAllocDisable s
  | .statusQuery => Sys2Proof.Machine.execStatusQuery s
  | .startBitConfirmed link => Sys2Proof.Machine.execStartBitConfirmed link s
  | .resetEnd => Sys2Proof.Machine.execResetEnd s

end Sys2Proof.Machine
end

