-- ==== Sys2Proof/Machine/Tick.lean ====
section
/-! DEFINITION. One period of CLK_IN (25 ns): what a step does on an empty queue (log 2). The time base
and the running timers advance, the lines are resolved, and every event that falls due joins the queue. -/

namespace Sys2Proof
namespace Machine

/-- The time base advances by one every 40 clock periods (R108). -/
def State.advanceTime (s : State) : State :=
  if s.subClock + 1 < clocksPerMicro then { s with subClock := s.subClock + 1 }
  else { s with subClock := 0, timeBase := s.timeBase + 1 }

/-- A LIU one clock period later: its gap timer, its transmitter and its bit receiver (R169, R173,
R174, R166). -/
def Liu.advance (u : Liu) (rxd : Bool) : Liu :=
  { u with gap := u.gap.map (· + 1), tx := u.tx.advance, receiver := (u.receiver.sample rxd).1 }

/-- The state one clock period later. A fall of Z does nothing but change the resolved level (R83). -/
def State.advance (s : State) : State :=
  { s.advanceTime with
      act := { s.act with held := min (s.act.held + 1) toffFilterClocks }
      ale := { s.ale with pass := s.ale.pass.map fun p => { p with clocks := p.clocks + 1 } }
      asu := PerAxle.of fun a =>
        { s.asu.get a with levelZ := (s.asu.get a).levelZ && (s.pins.sensor.get a).z }
      liu := PerLink.of fun l => (s.liu.get l).advance (s.pins.rxd.get l) }

/-- An event, when it is due. -/
def due (c : Bool) (i : Instr) : List Instr := if c then [i] else []

/-- The events an axle's sensor lines show: one line changed, both changed, or Z rose (R75, R76, R83). -/
def sensorEvents (a : Axle) (u : Asu) (q : SensorPins) : List Instr :=
  due (u.levelA != q.a && u.levelB == q.b) (.countedEdge a .a) ++
  due (u.levelA == q.a && u.levelB != q.b) (.countedEdge a .b) ++
  due (u.levelA != q.a && u.levelB != q.b) (.phaseError a) ++
  due (!u.levelZ && q.z) (.zRisingEdge a)

/-- The events of a link that its own timers and its bit receiver bring. `before` is the LIU before this
clock period. -/
def linkEvents (l : Link) (before after : Liu) (rxd : Bool) : List Instr :=
  due after.gapDone (.gapExpiry l) ++ due after.tx.frameDone (.frameTransmitEnd l) ++
  due after.tx.breakDone (.resetBreakEnd l) ++
  ((before.receiver.sample rxd).2.map (RxEvent.command l)).toList

end Machine

/-- The command that serves a kind. -/
def Kind.command : Kind → Instr
  | .demand        => .demand
  | .envelope      => .envelope
  | .reference     => .reference
  | .limitPost     => .limitPost
  | .limitWithdraw => .limitWithdraw
  | .limitList     => .limitList
  | .mapStage      => .mapStage
  | .mapCommit     => .mapCommit
  | .mapFlush      => .mapFlush
  | .mapRead       => .mapRead
  | .mapProbe      => .mapProbe
  | .configWrite   => .configWrite
  | .configRead    => .configRead
  | .allocEnable   => .allocEnable
  | .allocDisable  => .allocDisable
  | .statusQuery   => .statusQuery

/-- The command that handles a frame. -/
def Frame.command (f : Frame) : Instr :=
  match Kind.ofCode f.kind with
  | some k => Kind.command k
  | none   => .badKindFrame

namespace Machine

/-- Whenever a link is eligible, the Request Engine serves one (R154; log 10). -/
def State.serveEvents (s : State) : List Instr :=
  match s.served with
  | none        => []
  | some (_, f) => [Frame.command f]

/-- The pass has reached its completion time (R2; log 4). -/
def Ale.completionDue (x : Ale) : Bool :=
  match x.pass with
  | none   => false
  | some p => p.latency ≤ p.clocks

/-- A change of the TOFF_N pin (R130). -/
def State.pinEvents (s : State) : List Instr :=
  due (s.act.pinLevel != s.pins.toffN) (.toffNPinChange s.pins.toffN)

/-- The events due in a state one clock period after `before`, but for a change of the TOFF_N pin. -/
def State.racingEvents (before s : State) : List Instr :=
  due (!s.pins.resetN) .reset ++
  due (s.act.filterDue false) .toffNFalling ++
  due (s.act.filterDue true) .toffNRising ++
  sensorEvents .front (s.asuOf .front) s.pins.sensor.front ++
  sensorEvents .rear (s.asuOf .rear) s.pins.sensor.rear ++
  due ((s.asuOf .front).historyExpired s.timeBase) (.edgeHistoryExpiry .front) ++
  due ((s.asuOf .rear).historyExpired s.timeBase) (.edgeHistoryExpiry .rear) ++
  due s.ale.completionDue .passCompletion ++
  due (s.ptm.level != s.pins.syncIn) (.syncInEdge s.pins.syncIn) ++
  due (decide (s.ptm.oneShot = some s.timeBase)) .oneShotExpiry ++
  due (decide (s.ptm.timer = some s.timeBase)) .internalTimerExpiry ++
  Link.all.flatMap (fun l => linkEvents l (before.liuOf l) (s.liuOf l) (s.pins.rxd.get l)) ++
  s.serveEvents

/-- All the events due in a state one clock period after `before`. -/
def State.dueEvents (before s : State) : List Instr := before.racingEvents s ++ s.pinEvents

/-- Events that fall together are taken in an order the spec leaves open: each is placed among the
others at a free position (log 3). -/
def scatter (k : Nat) : List Instr → List Instr
  | []      => []
  | e :: es =>
    match scatter (k + 1) es with
    | []      => [e]
    | r :: rs => (r :: rs).insertIdx (Config.racePlace k % (rs.length + 2)) e

/-- The queue takes the events that fell due: the racing ones in a free order, then those that come last. -/
def State.queued (s : State) (racing last : List Instr) : State :=
  { s with pending := scatter s.freeIndex racing ++ last, freeIndex := s.freeIndex + racing.length }

/-- One period of CLK_IN. A level of the TOFF_N pin held for 5 µs is taken at that moment, also where the
pin changes just then, so the change of the pin comes last (R130). While a reset stands nothing but its end
can come (R108, R174; log 6). -/
def State.tick (s : State) : State :=
  if s.inReset then { s with pending := due s.pins.resetN .resetEnd }
  else s.advance.queued (s.racingEvents s.advance) s.advance.pinEvents

end Machine
end Sys2Proof
end

