-- ==== Sys2Proof/Safety.lean ====
section
/-! DEFINITION. What counts as a sound state of the allocator: the ranges of each block's table in spec/
and the laws the spec states of its tables and queues. Every step keeps them; claims use these names. -/

namespace Sys2Proof
namespace Machine

/-- Both axles' values satisfy a predicate. -/
abbrev PerAxle.All {α : Type} (p : PerAxle α) (q : α → Prop) : Prop := q p.front ∧ q p.rear

/-- All four links' values satisfy a predicate. -/
abbrev PerLink.All {α : Type} (p : PerLink α) (q : α → Prop) : Prop := q p.vsc ∧ q p.fdi ∧ q p.rdi ∧ q p.sbc

/-- A policy lies in the ranges of R32. -/
abbrev Policy.InRange (p : Policy) : Prop :=
  p.share ≤ 1000 ∧ p.slipTarget ≤ 250 ∧ p.gain ≤ 255 ∧ p.transferCap ≤ 16000

/-- The LRU order is a permutation of the four ways (R34). -/
abbrev MapSet.OrderOk (m : MapSet) : Prop := m.lru.Perm [0, 1, 2, 3]

/-- No two valid entries of a set have identical keys (R33). -/
abbrev MapSet.KeysDistinct (m : MapSet) : Prop :=
  ∀ v w : Fin 4, v ≠ w → (m.entry v).valid = true → (m.entry w).valid = true →
    (m.entry v).content.key ≠ (m.entry w).content.key

/-- A set is sound (R32, R33, R34). -/
abbrev MapSet.Ok (m : MapSet) : Prop :=
  m.OrderOk ∧ m.KeysDistinct ∧ ∀ w : Fin 4, (m.entry w).content.policy.InRange

/-- The content a pending slot holds is in range (R41). -/
def MapOp.InRange : MapOp → Prop
  | .empty       => True
  | .write c _ _ => c.policy.InRange
  | .flush       => True

/-- The Split Map is sound (R31 to R34, R39, R41). -/
def SplitMap.Ok (m : SplitMap) : Prop :=
  (∀ n : Fin 16, (m.set n).Ok) ∧ m.stage.policy.InRange ∧ m.slot.InRange

/-- The range of a limit's value by its kind (R55). -/
def LimitKind.valueOk : LimitKind → Nat → Prop
  | .driveCeil,  v => v ≤ 16000
  | .regenCeil,  v => v ≤ 16000
  | .rateCeil,   v => 10 ≤ v ∧ v ≤ 4000
  | .noTransfer, v => v = 0

/-- A record lies in the ranges of R55; a finite lifetime has passes left, a lifetime of 0 shows
remaining 0. -/
def Limit.Ok (r : Limit) : Prop :=
  r.tag ≤ 15 ∧ r.kind.valueOk r.value ∧ r.lifetime ≤ 255 ∧ r.remaining ≤ r.lifetime ∧
    (r.lifetime ≠ 0 → 1 ≤ r.remaining)

/-- The Limit Table is sound: at most 16 records, at most 4 of each owner, no two with the same owner
and tag (R55, R56). -/
def LimitsOk (table : List Limit) : Prop :=
  table.length ≤ 16 ∧ (∀ l : Link, ownerCount table l ≤ 4) ∧
    table.Pairwise (fun q r => ¬ (q.owner = r.owner ∧ q.tag = r.tag)) ∧ ∀ r ∈ table, r.Ok

/-- The periodic kind of a link (chapter 8, opening). -/
def periodicCode : Link → BitVec 6
  | .vsc => Frame.statusReportCode
  | .fdi => Frame.axleCommandCode
  | .rdi => Frame.axleCommandCode
  | .sbc => Frame.slipReportCode

/-- The transmit queue holds at most three frames, at most two of them RESPONSE frames, at most one of
the link's periodic kind, and no other (R173). -/
abbrev TxQueueOk (l : Link) (q : List Frame) : Prop :=
  q.length ≤ 3 ∧ q.countP Frame.isResponse ≤ 2 ∧ q.countP (fun f => f.kind = periodicCode l) ≤ 1 ∧
    ∀ f ∈ q, f.isResponse = true ∨ f.kind = periodicCode l

/-- A Link Interface Unit is sound (R165, R170, R171, R173): the queues' bounds, a frame in assembly only
in IN_FRAME, the gap timer only in IN_FRAME, and FAULTED whenever the bad count stands at 8. -/
def Liu.Ok (u : Liu) (l : Link) : Prop :=
  u.rxQueue.length ≤ 2 ∧ TxQueueOk l u.txQueue ∧ (∀ f ∈ u.rxQueue, f.WellFormed) ∧
    u.badCount ≤ 8 ∧ (u.badCount = 8 → u.faulted = true) ∧
    (u.framer = .inFrame ↔ u.assembly ≠ []) ∧
    (2 ≤ u.assembly.length → (u.assembly.getD 1 0).toNat ≤ 16 ∧
      u.assembly.length < (u.assembly.getD 1 0).toNat + 3) ∧
    (u.gap ≠ none → u.framer = .inFrame) ∧ (u.tx = .idle → u.txQueue = [])

/-- All four links are sound. -/
def State.LinksOk (s : State) : Prop := ∀ l : Link, (s.liuOf l).Ok l

/-- Every active value, and every pending one, lies in its parameter's range (R134). -/
def State.ConfigOk (s : State) : Prop :=
  ∀ q : Param, (q.low ≤ s.act.active.val q ∧ s.act.active.val q ≤ q.high) ∧
    ∀ v, s.act.pendingOf q = some v → q.low ≤ v ∧ v ≤ q.high

/-- The Input Image is in the ranges of R94 to R97. -/
def Image.Ok (i : Image) : Prop :=
  (-16000 ≤ i.demand.fields.demand ∧ i.demand.fields.demand ≤ 16000) ∧ i.demand.fields.mass ≤ 65535 ∧
    (-400 ≤ i.demand.fields.grade ∧ i.demand.fields.grade ≤ 400) ∧ i.demand.age ≤ 255 ∧
    i.envelope.All (fun e => e.fields.drive ≤ 16000 ∧ e.fields.regen ≤ 16000 ∧
      (-32768 ≤ e.fields.motorSpeed ∧ e.fields.motorSpeed ≤ 32767) ∧ e.age ≤ 255) ∧
    i.reference.fields.magnitude ≤ 65535 ∧ i.reference.age ≤ 255

/-- The health, the fault count and the good-run count agree (R87). -/
def Asu.HealthOk (u : Asu) : Prop :=
  match u.health with
  | .good    => u.faultCount = 0 ∧ u.goodRun ≤ 16
  | .suspect => (u.faultCount = 1 ∨ u.faultCount = 2) ∧ u.goodRun = 0
  | .fault   => u.faultCount = 3 ∧ u.goodRun ≤ 15

/-- An Axle Speed Unit is in the ranges of R74, and every entry of its history has the last direction
(R77). -/
def Asu.Ok (u : Asu) : Prop :=
  |u.windowCount| ≤ 32767 ∧ |u.sinceIndex| ≤ 32767 ∧ u.history.length ≤ 5 ∧
    (∀ e ∈ u.history, u.lastDir = some e.dir) ∧ u.HealthOk ∧ |u.latched.speed| ≤ 65535

/-- The Period Timer is sound (R109): the divider count below the divider, the internal timer running
exactly in INTERNAL, the one-shot running and no reacquisition in SYNCED. -/
def Ptm.Ok (p : Ptm) : Prop :=
  1 ≤ p.divider ∧ p.divider ≤ 16 ∧ p.dividerCount < p.divider ∧ p.reacquire ≤ 16 ∧
    (p.mode = .internal ↔ p.timer ≠ none) ∧ (p.mode = .synced → p.oneShot ≠ none ∧ p.reacquire = 0)

/-- Two commands lie in range, together no greater than 16000, and do not oppose each other (R4, R27,
R29). -/
def CommandsOk (t : PerAxle Int) : Prop :=
  |t.front| + |t.rear| ≤ 16000 ∧ ¬ (0 < t.front ∧ t.rear < 0) ∧ ¬ (t.front < 0 ∧ 0 < t.rear)

/-- The carried state is in the ranges of R3. -/
def Carried.Ok (c : Carried) : Prop :=
  |c.demand| ≤ 16000 ∧ c.share ≤ 1000 ∧ c.axle.All (fun a => a.holdCounter ≤ 15)

/-- The published record is in the ranges of R4. -/
def Published.Ok (p : Published) : Prop :=
  CommandsOk p.torque ∧ |p.shortfall| ≤ 32000 ∧ |p.demand| ≤ 16000 ∧ p.share ≤ 1000 ∧
    p.slip.All (fun x => |x| ≤ 1000)

/-- What a pass in flight holds is in range, and it completes within 40 µs (R1, R2). -/
def Pass.Ok (x : Pass) : Prop :=
  (∀ q : Param, q.low ≤ x.copy.config.val q ∧ x.copy.config.val q ≤ q.high) ∧
    x.copy.policy.InRange ∧ |x.copy.image.demand.fields.demand| ≤ 16000 ∧
    x.copy.image.envelope.All (fun e => e.fields.drive ≤ 16000 ∧ e.fields.regen ≤ 16000) ∧
    x.copy.carried.Ok ∧ CommandsOk x.copy.prev ∧ x.latency ≤ passClocks

/-- The Allocation Engine is sound (R3, R4). Until a falling of TOFF_N, the pass in flight works from the
carried state and the commands that still stand (R2). -/
def Ale.Ok (x : Ale) : Prop :=
  x.carried.Ok ∧ x.published.Ok ∧
    ∀ p, x.pass = some p →
      p.Ok ∧ (p.toffTaken = false → p.copy.carried = x.carried ∧ p.copy.prev = x.published.torque)

/-- The allocator is off: STANDBY or FORCED_OFF (R125). -/
def AllocState.off : AllocState → Bool
  | .standby   => true
  | .forcedOff => true
  | .run       => false
  | .rampdown  => false

/-- While the allocator is off both commands are zero, and a pass in flight will publish zeros (R125, R131). -/
def State.OffOk (s : State) : Prop :=
  s.act.state.off = true →
    s.ale.published.torque = { front := 0, rear := 0 } ∧
      ∀ p, s.ale.pass = some p → p.toffTaken = true ∨ p.copy.allocState.off = true

/-- Every block is sound. -/
structure State.Ok (s : State) : Prop where
  map     : s.map.Ok
  limits  : LimitsOk s.limits
  links   : s.LinksOk
  config  : s.ConfigOk
  image   : s.image.Ok
  sensors : s.asu.All Asu.Ok
  timer   : s.ptm.Ok
  engine  : s.ale.Ok
  status  : s.statusCount ≤ 15
  filter  : s.act.held ≤ toffFilterClocks
  clock   : s.subClock < clocksPerMicro
  off     : s.OffOk

/-! ### Words for claims about commands -/

/-- The part runs, and the arbiter's next choice is this frame of this link. -/
abbrev State.Serves (s : State) (l : Link) (f : Frame) : Prop := s.inReset = false ∧ s.served = some (l, f)

end Machine

/-- The frame passes the three checks of the Request Engine as a frame of this kind (R157). -/
abbrev Frame.Passes (f : Frame) (k : Kind) (l : Link) : Prop :=
  f.kind = k.code ∧ k.permitted l = true ∧ f.payload.length = k.length

namespace Machine

/-- The state after the frame served was handled and answered, before what its owner changed. -/
def State.answered (s : State) (l : Link) (f : Frame) (status : Status) (data : List Byte) : State :=
  (s.dequeue l).answer l f (some { status := status, data := data })

/-- A 16-bit value read as two's complement (00 "Frames"). -/
def twos16 (n : Nat) : Int := if 32768 ≤ n then (n : Int) - 65536 else n

/-- Commands run one after another; none when one of them stops. -/
def runAll : List Instr → State → Option State
  | [],      s => some s
  | c :: cs, s =>
    match exec c s with
    | .next t    => runAll cs t
    | .fault _   => none
    | .refused _ => none

end Machine

/-- The bytes of a frame as the receiver takes them, the marker set in the header alone (R150). -/
def Frame.arrival (f : Frame) (l : Link) : List Instr :=
  .byteTaken l f.header true false ::
    (f.lengthByte :: (f.payload ++ [f.check])).map fun b => .byteTaken l b false false

namespace Machine

/-- A bad frame counted, written out (R171). -/
def Liu.withBad (u : Liu) : Liu :=
  { u with badCount := min 8 (u.badCount + 1), faulted := u.faulted || decide (u.badCount = 7)
           linkEvent := u.linkEvent || decide (u.badCount = 7) }

/-- The framer in HUNT with nothing in assembly. -/
def Liu.hunting (u : Liu) : Liu := { u with framer := .hunt, assembly := [], gap := none }

/-- The bit receiver resolves a run of levels; what it handed on, oldest first (R164). -/
def Receiver.resolve : Receiver → List Bool → Receiver × List RxEvent
  | r, []      => (r, [])
  | r, b :: bs =>
    let x := r.sample b
    let y := x.1.resolve bs
    (y.1, x.2.toList ++ y.2)

/-- The 440 levels, 25 ns apart, of one byte on a line (R164). -/
def byteLevels (data : Byte) (marker : Bool) : List Bool :=
  (List.range byteClocks).map fun n => lineBit data marker (n / bitClocks)

/-- The forward sequence of the levels of A and B (R75). -/
def forwardNext : Bool × Bool → Bool × Bool
  | (false, false) => (true, false)
  | (true, false)  => (true, true)
  | (true, true)   => (false, true)
  | (false, true)  => (false, false)

/-- Stage 9 of one axle over several passes, each with its target and rate bound; what the axle put out,
oldest first, and the carried state at the end (R22 to R24). -/
def stage9Run (reversalHold : Nat) : Int → AxleCarry → List (Int × Int) → List Int × AxleCarry
  | _,    c, []               => ([], c)
  | prev, c, (target, rate) :: rest =>
    let x := stage9 prev target rate reversalHold c
    let y := stage9Run reversalHold x.1 x.2 rest
    (x.1 :: y.1, y.2)

end Machine
end Sys2Proof
end

