-- ==== Sys2Proof/Certificates/Slice0/Obligations.lean ====
section
/-! DEFINITION. The statements for the provers. "log <n>" names notes/assumptions/<n>.md; where a statement
rests on such a choice its docstring says so. -/

open Sys2Proof Sys2Proof.Machine

/-! ### The queue, the clock, and what does not occur -/

/-- A step takes the command at the front of the queue and runs it on the state with the queue's rest. -/
def Obligations.StepRunsFrontCommand : Prop :=
  ∀ (c : Instr) (rest : List Instr) (s : State),
    s.pending = c :: rest → step s = exec c { s with pending := rest }

/-- On an empty queue one period of CLK_IN passes (the model's choice, log 2): the time base advances
every 40 periods (R108), each transmitter and gap timer counts one period on and each bit receiver samples
its RXD (R164, R166, R169, R173; log 16, 17), no block changes but by its own clocks and lines, and the queue
takes exactly the events that fall due, in some order (log 3) but for a change of the TOFF_N pin, which comes
last, so that a level held for 5 µs is taken (R130): a completion after the pass's free latency
(log 4), the oldest frame of an eligible link in every period (log 10), the others by their clocks and lines
(log 15, 16). While RESET_N is low nothing but its return can come (log 6). -/
def Obligations.IdleStepIsOneClockPeriod : Prop :=
  ∀ s : State, s.pending = [] → s.subClock < 40 → ∃ t, step s = .next t ∧
    (s.inReset = true → t = { s with pending := if s.pins.resetN then [.resetEnd] else [] }) ∧
    (s.inReset = false →
      (40 * t.timeBase.toNat + t.subClock) % (40 * 2 ^ 32) = (40 * s.timeBase.toNat + s.subClock + 1) % (40 * 2 ^ 32) ∧
      t.subClock < 40 ∧ t.pending.Perm (s.dueEvents t) ∧
      (∀ h, .toffNPinChange h ∈ t.pending → t.pending.getLast? = some (.toffNPinChange h)) ∧
      (.toffNFalling ∈ t.pending ↔ s.act.pinLevel = false ∧ s.act.filtered = true ∧ 199 ≤ s.act.held) ∧
      (.toffNRising ∈ t.pending ↔ s.act.pinLevel = true ∧ s.act.filtered = false ∧ 199 ≤ s.act.held) ∧
      (.internalTimerExpiry ∈ t.pending ↔ t.ptm.timer = some t.timeBase) ∧
      (.oneShotExpiry ∈ t.pending ↔ t.ptm.oneShot = some t.timeBase) ∧
      (.passCompletion ∈ t.pending ↔ ∃ x, t.ale.pass = some x ∧ x.latency ≤ x.clocks) ∧
      (∀ l, .gapExpiry l ∈ t.pending ↔ (t.liuOf l).framer = .inFrame ∧ ∃ n, (t.liuOf l).gap = some n ∧ 1320 ≤ n) ∧
      t.pins = s.pins ∧ t.inReset = false ∧ t.ptm = s.ptm ∧ t.image = s.image ∧ t.map = s.map ∧ t.limits = s.limits ∧
      t.ale.carried = s.ale.carried ∧ t.ale.published = s.ale.published ∧
      t.ale.pass = s.ale.pass.map (fun x => { x with clocks := x.clocks + 1 }) ∧
      t.act = { s.act with held := min (s.act.held + 1) 200 } ∧ t.statusCount = s.statusCount ∧ t.pointer = s.pointer ∧
      (∀ a, t.asuOf a = { s.asuOf a with levelZ := (s.asuOf a).levelZ && (s.pins.sensor.get a).z }) ∧
      (∀ l, t.liuOf l = { s.liuOf l with
        gap := (s.liuOf l).gap.map (· + 1), tx := (s.liuOf l).tx.advance
        receiver := ((s.liuOf l).receiver.sample (s.pins.rxd.get l)).1 }) ∧
      (∀ l f n, (s.liuOf l).tx = .sending f n → (t.liuOf l).tx = .sending f (n + 1)) ∧
      (∀ l n, (s.liuOf l).tx = .resetBreak n → (t.liuOf l).tx = .resetBreak (n + 1)) ∧
      (∀ l, (s.liuOf l).tx = .idle → (t.liuOf l).tx = .idle) ∧
      (∀ l, .linkBreak l ∈ t.pending ↔ ((s.liuOf l).receiver.sample (s.pins.rxd.get l)).2 = some .lineBreak))

/-- Every command answers a next state, in every state (the model knows no fault and no refusal: log 21);
none touches the queue, the lines RXD (for RESET the model's choice: log 18) or, RESET apart, the time base,
which cannot be written (R108). -/
def Obligations.EveryCommandAnswersNext : Prop :=
  ∀ (c : Instr) (s : State), ∃ t, exec c s = .next t ∧ t.pending = s.pending ∧ t.pins.rxd = s.pins.rxd ∧
    (c ≠ .reset → t.timeBase = s.timeBase ∧ t.subClock = s.subClock) ∧
    (c ≠ .reset → c ≠ .resetEnd → t.inReset = s.inReset)

/-- A command whose event cannot occur changes nothing (the model's reading, log 5): in a reset every
command but RESET and RESET_END (log 6); an expiry, an end or a completion that is not due; a change of
the TOFF_N filter that is not due; and a request of another kind than the frame the arbiter serves
(log 9). -/
def Obligations.CommandsThatDoNotOccur : Prop :=
  ∀ s : State,
    (∀ c, s.inReset = true → c ≠ .reset → c ≠ .resetEnd → exec c s = .next s) ∧
    (s.inReset = false → exec .resetEnd s = .next s) ∧
    (s.ptm.oneShot ≠ some s.timeBase → exec .oneShotExpiry s = .next s) ∧
    (s.ptm.timer ≠ some s.timeBase → exec .internalTimerExpiry s = .next s) ∧
    (s.ale.pass = none → exec .passCompletion s = .next s) ∧
    (∀ h, s.act.pinLevel = h → exec (.toffNPinChange h) s = .next s) ∧
    (s.act.pinLevel = true ∨ s.act.filtered = false ∨ s.act.held < 200 → exec .toffNFalling s = .next s) ∧
    (s.act.pinLevel = false ∨ s.act.filtered = true ∨ s.act.held < 200 → exec .toffNRising s = .next s) ∧
    (∀ a, (∀ e es, (s.asuOf a).history = e :: es → elapsed e.time s.timeBase < 65536) →
      exec (.edgeHistoryExpiry a) s = .next s) ∧
    (∀ l, (s.liuOf l).framer ≠ .inFrame ∨ (∀ n, (s.liuOf l).gap = some n → n < 1320) → exec (.gapExpiry l) s = .next s) ∧
    (∀ l, (∀ f n, (s.liuOf l).tx = .sending f n → n < (f.payload.length + 3) * 440) →
      exec (.frameTransmitEnd l) s = .next s) ∧
    (∀ l, (∀ n, (s.liuOf l).tx = .resetBreak n → n < 1320) → exec (.resetBreakEnd l) s = .next s) ∧
    (∀ k : Kind, (∀ l f, s.served = some (l, f) → f.kind ≠ k.code) → exec k.command s = .next s) ∧
    ((∀ l f, s.served = some (l, f) → ∃ k : Kind, f.kind = k.code) → exec .badKindFrame s = .next s)

/-! ### Reset -/

/-- RESET gives every block the values its chapter tables, whatever the state was (R54, R73, R74, R107,
R109, R124, R134, R141, R153, R165, and R3, R4), abandoning a pass in flight. -/
def Obligations.ResetLeavesTabledValues : Prop :=
  ∀ s : State, ∃ t, exec .reset s = .next t ∧ t.inReset = true ∧ t.timeBase = 0 ∧
    (t.ptm.mode = .internal ∧ t.ptm.select = .rising ∧ t.ptm.divider = 8 ∧ t.ptm.dividerCount = 0 ∧
      t.ptm.lastQualified = none ∧ t.ptm.oneShot = none ∧ t.ptm.reacquire = 0 ∧ t.ptm.timer = some 1000 ∧
      t.ptm.lastBoundary = 0 ∧ t.ptm.periodCount = 0 ∧ t.ptm.skipped = false) ∧
    (∀ a, (t.asuOf a).lastDir = none ∧ (t.asuOf a).windowCount = 0 ∧ (t.asuOf a).windowStart = 0 ∧
      (t.asuOf a).phaseError = false ∧ (t.asuOf a).history = [] ∧ (t.asuOf a).sinceIndex = 0 ∧
      (t.asuOf a).dirChanged = false ∧ (t.asuOf a).armed = false ∧ (t.asuOf a).faultCount = 0 ∧
      (t.asuOf a).goodRun = 0 ∧ (t.asuOf a).health = .good ∧
      (t.asuOf a).latched = { speed := 0, state := .invalid, health := .good }) ∧
    (t.image.demand = { fields := { demand := 0, mode := 0, trailer := false, mass := 0, grade := 0 }, age := 255 } ∧
      (∀ a, t.image.envelope.get a =
        { fields := { drive := 0, regen := 0, motorSpeed := 0, ready := false }, age := 255 }) ∧
      t.image.reference = { fields := { magnitude := 0, direction := .forward, valid := false }, age := 255 } ∧
      t.image.inputClamped = false) ∧
    (∀ (n : Fin 16) (w : Fin 4), (t.map.set n).lru = [0, 1, 2, 3] ∧ ((t.map.set n).entry w).valid = false ∧
      ((t.map.set n).entry w).content =
        { key := { load := .band 0, grade := .band 0, speed := .band 0 }
          policy := { share := 0, slipTarget := 0, gain := 0, transferCap := 0 } }) ∧
    (t.map.stage = { key := { load := .band 0, grade := .band 0, speed := .band 0 }
                     policy := { share := 0, slipTarget := 0, gain := 0, transferCap := 0 } } ∧
      t.map.staged = false ∧ t.map.slot = .empty ∧ t.limits = []) ∧
    (t.ale.pass = none ∧ t.ale.carried.demand = 0 ∧ t.ale.carried.share = 400 ∧
      (∀ a, t.ale.carried.axle.get a = { lastSign := .none, holdActive := false, holdCounter := 0 }) ∧
      t.ale.published =
        { torque := { front := 0, rear := 0 }, shortfall := 0, demand := 0, share := 400
          slip := { front := 0, rear := 0 }
          flags := { front := { slipCut := false, bound := false, hold := false, envStale := false }
                     rear := { slipCut := false, bound := false, hold := false, envStale := false } }
          noRef := false, refStale := false, demandStale := false, mapMiss := false
          mapResult := { hit := false, set := 0, way := 0 } }) ∧
    (t.act.state = .standby ∧ t.act.filtered = false ∧ (∀ q, t.act.pendingOf q = none) ∧
      Param.all.map t.act.active.val =
        [400, 80, 20, 3000, 400, 10, 3, 200, 4, 3, 3, 0, 8, 2000, 1000, 192, 192, 2, 3, 9000, 9000, 40, 4]) ∧
    t.statusCount = 0 ∧ t.pointer = .vsc ∧
    (∀ l, (t.liuOf l).framer = .hunt ∧ (t.liuOf l).assembly = [] ∧ (t.liuOf l).gap = none ∧ (t.liuOf l).rxQueue = [] ∧
      (t.liuOf l).badCount = 0 ∧ (t.liuOf l).faulted = false ∧ (t.liuOf l).linkEvent = false ∧
      (t.liuOf l).txQueue = [] ∧ (t.liuOf l).tx = .resetBreak 0)

/-- When a reset ends the time base counts on, each block takes the levels of its lines without counting
an edge, each receiver on a low line waits for it to rise, and each transmitter begins its reset break
(R93, R123, R130, R166, R174). Nothing else changes. That RESET_END is a command of its own that ends the
state RESET leaves is log 6, that it leaves the RESET_N pin high log 7. -/
def Obligations.ResetEndTakesLineLevels : Prop :=
  ∀ s : State, s.inReset = true → ∃ t, exec .resetEnd s = .next t ∧
    t = { s with inReset := false, pins := { s.pins with resetN := true }, ptm := t.ptm, act := t.act
                 asu := t.asu, liu := t.liu } ∧
    t.ptm = { s.ptm with level := s.pins.syncIn } ∧
    t.act = { s.act with pinLevel := s.pins.toffN, held := 0 } ∧
    (∀ a, t.asuOf a = { s.asuOf a with
      levelA := (s.pins.sensor.get a).a, levelB := (s.pins.sensor.get a).b, levelZ := (s.pins.sensor.get a).z }) ∧
    (∀ l, t.liuOf l = { s.liuOf l with
      tx := .resetBreak 0, receiver := if s.pins.rxd.get l then .waiting else .awaitHigh }) ∧
    (∀ l, t.txd l = false)

/-! ### Serial links -/

/-- The bytes of a well-formed frame, taken one after another, bring it whole into the receive queue, or,
where two frames wait, lose it to an overrun; they clear the count and FAULTED. A frame in assembly that
they cut short counts once as bad. In OVERRUN they change nothing (R150, R167, R168, R170, R171). -/
def Obligations.FrameBytesJoinReceiveQueue : Prop :=
  ∀ (s : State) (l : Link) (f : Frame), s.inReset = false → f.WellFormed →
    ((s.liuOf l).framer ≠ .overrun →
      runAll (f.arrival l) s = some (s.modLiu l fun u =>
        { u with
            badCount := 0, faulted := false, assembly := [], gap := none
            framer := if u.rxQueue.length < 2 then .hunt else .overrun
            rxQueue := if u.rxQueue.length < 2 then u.rxQueue ++ [f] else u.rxQueue
            linkEvent := u.linkEvent || decide (u.framer = .inFrame ∧ u.badCount = 7) ||
              decide (2 ≤ u.rxQueue.length) })) ∧
    ((s.liuOf l).framer = .overrun → runAll (f.arrival l) s = some s)

/-- The framer judges a byte by its state, in the order of R168's table, and counts each bad frame once,
the eighth setting FAULTED and LINK_EVENT (R167, R168, R170, R171). -/
def Obligations.FramerJudgesEachByte : Prop :=
  ∀ (s : State) (l : Link) (data : Byte) (marker err : Bool), s.inReset = false → (s.liuOf l).badCount ≤ 8 →
    ((s.liuOf l).framer = .hunt → marker = true → err = false →
      exec (.byteTaken l data marker err) s =
        .next (s.modLiu l fun u => { u with framer := .inFrame, assembly := [data], gap := some 0 })) ∧
    ((s.liuOf l).framer = .hunt → (marker = false ∨ err = true) → exec (.byteTaken l data marker err) s = .next s) ∧
    ((s.liuOf l).framer = .overrun → exec (.byteTaken l data marker err) s = .next s) ∧
    ((s.liuOf l).framer = .inFrame → err = true →
      exec (.byteTaken l data marker err) s = .next (s.modLiu l fun u => u.withBad.hunting)) ∧
    ((s.liuOf l).framer = .inFrame → err = false → marker = true →
      exec (.byteTaken l data marker err) s = .next (s.modLiu l fun u =>
        { u.withBad with assembly := [data], gap := some 0 })) ∧
    ((s.liuOf l).framer = .inFrame → err = false → marker = false → (s.liuOf l).assembly.length = 1 →
      16 < data.toNat →
      exec (.byteTaken l data marker err) s = .next (s.modLiu l fun u => u.withBad.hunting)) ∧
    (∀ h len : Byte, ∀ bytes : List Byte, (s.liuOf l).framer = .inFrame → err = false → marker = false →
      (s.liuOf l).assembly ++ [data] = h :: len :: bytes → len.toNat ≤ 16 →
      (bytes.length < len.toNat + 1 →
        exec (.byteTaken l data marker err) s = .next (s.modLiu l fun u =>
          { u with assembly := h :: len :: bytes, gap := some 0 })) ∧
      (bytes.length = len.toNat + 1 → ((h :: len :: bytes).map BitVec.toNat).sum % 256 ≠ 0 →
        exec (.byteTaken l data marker err) s = .next (s.modLiu l fun u => u.withBad.hunting)) ∧
      (bytes.length = len.toNat + 1 → ((h :: len :: bytes).map BitVec.toNat).sum % 256 = 0 →
        ∃ f : Frame, f.bytes = h :: len :: bytes ∧
          exec (.byteTaken l data marker err) s = .next (s.modLiu l fun u =>
            { u with
                badCount := 0, faulted := false, assembly := [], gap := none
                framer := if u.rxQueue.length < 2 then .hunt else .overrun
                rxQueue := if u.rxQueue.length < 2 then u.rxQueue ++ [f] else u.rxQueue
                linkEvent := u.linkEvent || decide (2 ≤ u.rxQueue.length) })))

/-- In IN_FRAME a confirmed start bit stops the gap timer, however long it has run, and outside IN_FRAME it
changes nothing. A gap timer that has run for 33 µs (1320 clock periods: log 16) abandons the frame as bad.
Either may come first, and then the other does nothing more (R169). -/
def Obligations.StartBitOrGapExpiry : Prop :=
  ∀ (s : State) (l : Link), s.inReset = false →
    ((s.liuOf l).framer = .inFrame →
      exec (.startBitConfirmed l) s = .next (s.modLiu l fun u => { u with gap := none })) ∧
    ((s.liuOf l).framer ≠ .inFrame → exec (.startBitConfirmed l) s = .next s) ∧
    ∀ n, (s.liuOf l).badCount ≤ 8 → (s.liuOf l).framer = .inFrame → (s.liuOf l).gap = some n → 1320 ≤ n →
      exec (.gapExpiry l) s = .next (s.modLiu l fun u => u.withBad.hunting) ∧
      runAll [.startBitConfirmed l, .gapExpiry l] s = some (s.modLiu l fun u => { u with gap := none }) ∧
      runAll [.gapExpiry l, .startBitConfirmed l] s = some (s.modLiu l fun u => u.withBad.hunting)

/-- A break empties both queues, abandons the frame in assembly uncounted, ends OVERRUN, zeroes the count
and sets LINK_EVENT; FAULTED, the frame in transmission and every other block stand (R172), and the link
is not eligible until a new frame joins (R161). -/
def Obligations.BreakEmptiesTheLink : Prop :=
  ∀ (s : State) (l : Link), s.inReset = false → ∃ t, exec (.linkBreak l) s = .next t ∧
    t = (s.modLiu l fun u =>
      { u with framer := .hunt, assembly := [], gap := none, rxQueue := [], txQueue := [], badCount := 0
               linkEvent := true }) ∧
    (t.liuOf l).faulted = (s.liuOf l).faulted ∧ (t.liuOf l).tx = (s.liuOf l).tx ∧
    (∀ f, t.served ≠ some (l, f)) ∧ ∀ m, m ≠ l → t.liuOf m = s.liuOf m

/-- When the last byte of a frame of L + 3 bytes has ended, at 11 µs (440 clock periods) a byte, or when the
33 µs of the reset break are over, the transmitter is idle and the oldest waiting frame begins at the
same moment; a flagged frame clears LINK_EVENT as it begins (R173, R174, R148). -/
def Obligations.TransmitterTakesNextFrame : Prop :=
  ∀ (s : State) (l : Link), s.inReset = false →
    (∀ f n, (s.liuOf l).tx = .sending f n → (f.payload.length + 3) * 440 ≤ n →
      ((s.liuOf l).txQueue = [] → exec (.frameTransmitEnd l) s = .next (s.modLiu l fun u => { u with tx := .idle })) ∧
      (∀ g rest, (s.liuOf l).txQueue = g :: rest →
        exec (.frameTransmitEnd l) s = .next (s.modLiu l fun u =>
          { u with tx := .sending g 0, txQueue := rest, linkEvent := u.linkEvent && !g.linkEvent }))) ∧
    (∀ n, (s.liuOf l).tx = .resetBreak n → 1320 ≤ n →
      ((s.liuOf l).txQueue = [] → exec (.resetBreakEnd l) s = .next (s.modLiu l fun u => { u with tx := .idle })) ∧
      (∀ g rest, (s.liuOf l).txQueue = g :: rest →
        exec (.resetBreakEnd l) s = .next (s.modLiu l fun u =>
          { u with tx := .sending g 0, txQueue := rest, linkEvent := u.linkEvent && !g.linkEvent })))

/-- A receiver that waits reads a byte sent in the form of R164 back with all its bits and its marker, one
confirmed start bit before it, and waits again; it reads a low level of 22 µs (880 periods) as one break,
after the start bit, however long it lasts, and one that lasts into the stop bit but ends before that as a byte
with a stop-bit error when the line rises, the length taken from the falling edge that began the low level: the
start bit's when every data and marker bit is low, the last one within the byte otherwise; and TXD carries each
byte of a frame in that form, the marker in the header alone, and is high after the last (R150, R164, R166).
Times are counted in periods of CLK_IN, each sampling RXD (log 16, 17). -/
def Obligations.ReceiverReadsWhatIsSent : Prop :=
  (∀ (data : Byte) (marker : Bool),
    Receiver.resolve .waiting (byteLevels data marker) = (.waiting, [.startBit, .byte data marker false])) ∧
  (∀ n : Nat, Receiver.resolve .waiting (List.replicate (881 + n) false) = (.awaitHigh, [.startBit, .lineBreak])) ∧
  Receiver.resolve .waiting (List.replicate 880 false ++ [true]) = (.waiting, [.startBit, .lineBreak]) ∧
  (∀ n : Nat, 420 < n → n < 880 →
    Receiver.resolve .waiting (List.replicate n false ++ [true]) = (.waiting, [.startBit, .byte 0 false true])) ∧
  (∀ (data : Byte) (marker : Bool) (j : Nat), 1 ≤ j → j ≤ 9 → lineBit data marker j = true →
    (∀ i, j < i → i ≤ 9 → lineBit data marker i = false) →
    let before := (byteLevels data marker).take (40 * (j + 1))
    (∀ n : Nat, 420 < 40 * (j + 1) + n → n < 880 →
      Receiver.resolve .waiting (before ++ (List.replicate n false ++ [true])) =
        (.waiting, [.startBit, .byte data marker true])) ∧
    Receiver.resolve .waiting (before ++ (List.replicate 880 false ++ [true])) = (.waiting, [.startBit, .lineBreak]) ∧
    ∀ n : Nat, Receiver.resolve .waiting (before ++ List.replicate (881 + n) false) =
      (.awaitHigh, [.startBit, .lineBreak])) ∧
  (∀ (f : Frame) (i : Nat) (h : i < f.bytes.length),
    (List.range 440).map (fun n => (Transmitter.sending f (440 * i + n)).level) = byteLevels f.bytes[i] (decide (i = 0))) ∧
  (∀ (f : Frame) (n : Nat), 440 * f.bytes.length ≤ n → (Transmitter.sending f n).level = true) ∧
  (∀ n : Nat, n < 20 → Receiver.resolve .waiting (List.replicate (n + 1) false ++ List.replicate 20 true) = (.waiting, []))

/-- A frame reads back whole from its bytes, and bytes that pass the test of R150 are the bytes of the frame
they spell: nothing of a frame is dropped, and nothing else passes. -/
def Obligations.FrameBytesRoundTrip : Prop :=
  (∀ f : Frame, f.WellFormed → Frame.ofBytes f.bytes = some f) ∧
  (∀ (bs : List Byte) (f : Frame), Frame.ofBytes bs = some f → f.WellFormed ∧ f.bytes = bs ∧ (bs.map BitVec.toNat).sum % 256 = 0)

/-! ### The Request Engine -/

/-- The arbiter serves the oldest frame of the first eligible link, counted from the one the pointer names;
a link is eligible with a frame waiting and fewer than two RESPONSE frames unsent (R153, R154). -/
def Obligations.ArbiterServesFirstEligible : Prop :=
  ∀ s : State,
    (s.served = none ↔ ∀ l, (s.liuOf l).rxQueue = [] ∨ 2 ≤ ((s.liuOf l).txQueue.filter Frame.isResponse).length) ∧
    ∀ l f, s.served = some (l, f) ↔
      (∃ rest, (s.liuOf l).rxQueue = f :: rest) ∧ ((s.liuOf l).txQueue.filter Frame.isResponse).length < 2 ∧
      ∀ m : Link, (m.number + 4 - s.pointer.number) % 4 < (l.number + 4 - s.pointer.number) % 4 →
        (s.liuOf m).rxQueue = [] ∨ 2 ≤ ((s.liuOf m).txQueue.filter Frame.isResponse).length

/-- Serving a frame is one event: the frame leaves its queue, the pointer names the link after it, no other
link is touched, and at most one RESPONSE is queued, with the frame's tag and kind and at most 14 data
bytes. No frame changes the published record, the pass in flight, the time or the sensors' counts
(R151, R154, R158, R159, R5). -/
def Obligations.FrameServedOnce : Prop :=
  ∀ (s : State) (l : Link) (f : Frame), s.Serves l f → ∃ t, exec f.command s = .next t ∧
    t.pointer.number = (l.number + 1) % 4 ∧ (∀ m, m ≠ l → t.liuOf m = s.liuOf m) ∧
    (t.liuOf l = { s.liuOf l with rxQueue := (s.liuOf l).rxQueue.tail } ∨
      ∃ r : Frame, t.liuOf l = Liu.appendResponse { s.liuOf l with rxQueue := (s.liuOf l).rxQueue.tail } r ∧
        r.kind = Frame.responseCode ∧ r.tag = f.tag ∧ r.payload.head? = some (f.kind.setWidth 8) ∧
        2 ≤ r.payload.length ∧ r.payload.length ≤ 16) ∧
    t.ale = s.ale ∧ t.ptm = s.ptm ∧ t.timeBase = s.timeBase ∧ t.subClock = s.subClock ∧
    t.statusCount = s.statusCount ∧ t.pins = s.pins ∧
    ∀ a, { t.asuOf a with armed := (s.asuOf a).armed } = s.asuOf a

/-- The Request Engine's checks, in order: an unknown kind is answered BAD_KIND, a link not permitted
NOT_PERMITTED, a wrong length BAD_FIELD, with no data; and nothing else changes. Codes, links and lengths
are those of R152's table (R152, R157). -/
def Obligations.RequestEngineChecks : Prop :=
  (Kind.all.map (fun k => (k.code.toNat, Link.all.filter k.permitted, k.length)) =
    [(0x01, [.vsc], 8), (0x02, [.fdi, .rdi], 7), (0x03, [.sbc], 4),
     (0x08, Link.all, 6), (0x09, Link.all, 1), (0x0A, Link.all, 1),
     (0x10, [.vsc], 9), (0x11, [.vsc], 3), (0x12, [.vsc], 0), (0x13, Link.all, 2), (0x14, Link.all, 5),
     (0x18, [.vsc], 3), (0x19, Link.all, 1), (0x1C, [.vsc], 0), (0x1D, [.vsc], 0), (0x1E, Link.all, 0)]) ∧
  ∀ (s : State) (l : Link) (f : Frame), s.Serves l f →
    ((∀ k ∈ Kind.all, f.kind ≠ k.code) → exec .badKindFrame s = .next (s.answered l f .badKind [])) ∧
    ∀ k : Kind, f.kind = k.code →
      (k.permitted l = false → exec k.command s = .next (s.answered l f .notPermitted [])) ∧
      (k.permitted l = true → f.payload.length ≠ k.length → exec k.command s = .next (s.answered l f .badField []))

/-- What an answered frame leaves: the RESPONSE of R159 with the tag of the frame answered, appended as the
newest, or begun at once by an idle transmitter; LINK_EVENT stands (R148, R151, R159, R160, R173). -/
def Obligations.ResponseFormAndPlace : Prop :=
  ∀ (s : State) (l : Link) (f : Frame) (st : Status) (data : List Byte), data.length ≤ 14 →
    ((s.liuOf l).tx = .idle → (s.liuOf l).txQueue = []) →
    ∃ r : Frame, r.WellFormed ∧ r.isResponse = true ∧ r.linkEvent = false ∧
      r.header.toNat = 0x20 + 64 * f.tag.toNat ∧ r.lengthByte.toNat = 2 + data.length ∧
      r.payload = BitVec.ofNat 8 f.kind.toNat :: BitVec.ofNat 8 st.code :: data ∧
      s.answered l f st data = { s.modLiu l (fun u =>
        { u with rxQueue := u.rxQueue.tail
                 tx := match u.tx with
                   | .idle => .sending r 0
                   | x => x
                 txQueue := match u.tx with
                   | .idle => []
                   | _ => u.txQueue ++ [r] }) with pointer := l.next }

/-! ### The Input Image -/

/-- A DEMAND with mode above 7 or trailer above 1 is refused; any other replaces the whole demand record,
clamped, at age 0, unanswered, and sets INPUT_CLAMPED when the clamp changed a value (R95, R98, R99). -/
def Obligations.DemandKeptOrRefused : Prop :=
  ∀ (s : State) (l : Link) (f : Frame), s.Serves l f → f.Passes .demand l →
    (7 < u8 f.payload 2 ∨ 1 < u8 f.payload 3 → exec .demand s = .next (s.answered l f .badField [])) ∧
    ∀ m : Fin 8, u8 f.payload 2 = m.val → u8 f.payload 3 ≤ 1 →
      exec .demand s = .next { s.dequeue l with image := { s.image with
        demand :=
          { fields := { demand := max (-16000) (min 16000 (twos16 (u16 f.payload 0)))
                        mode := m
                        trailer := decide (u8 f.payload 3 = 1)
                        mass := u16 f.payload 4
                        grade := max (-400) (min 400 (twos16 (u16 f.payload 6))) }
            age := 0 }
        inputClamped := s.image.inputClamped ||
          decide (16000 < |twos16 (u16 f.payload 0)| ∨ 400 < |twos16 (u16 f.payload 6)|) } }

/-- An ENVELOPE with a ready byte above 1 is refused; any other replaces the record of the axle its link
names, capabilities clamped at 16000, at age 0, unanswered (R94, R96, R98, R99). -/
def Obligations.EnvelopeKeptOrRefused : Prop :=
  ∀ (s : State) (a : Axle) (f : Frame), s.Serves a.link f → f.Passes .envelope a.link →
    (1 < u8 f.payload 6 → exec .envelope s = .next (s.answered a.link f .badField [])) ∧
    (u8 f.payload 6 ≤ 1 →
      exec .envelope s = .next { s.dequeue a.link with image := { s.image with
        envelope := s.image.envelope.set a
          { fields := { drive := min 16000 (u16 f.payload 0), regen := min 16000 (u16 f.payload 2)
                        motorSpeed := twos16 (u16 f.payload 4), ready := decide (u8 f.payload 6 = 1) }
            age := 0 }
        inputClamped := s.image.inputClamped || decide (16000 < u16 f.payload 0 ∨ 16000 < u16 f.payload 2) } })

/-- A REFERENCE with a direction or valid byte above 1 is refused; any other replaces the reference record
at age 0, unanswered, and never sets INPUT_CLAMPED (R97, R98). -/
def Obligations.ReferenceKeptOrRefused : Prop :=
  ∀ (s : State) (l : Link) (f : Frame), s.Serves l f → f.Passes .reference l →
    (1 < u8 f.payload 2 ∨ 1 < u8 f.payload 3 → exec .reference s = .next (s.answered l f .badField [])) ∧
    (u8 f.payload 2 ≤ 1 → u8 f.payload 3 ≤ 1 →
      exec .reference s = .next { s.dequeue l with image := { s.image with
        reference :=
          { fields := { magnitude := u16 f.payload 0
                        direction := if u8 f.payload 2 = 1 then .reverse else .forward
                        valid := decide (u8 f.payload 3 = 1) }
            age := 0 } } })

/-- A record accepted between two takes is fresh in exactly the next N takes, N its threshold, unless its link
is FAULTED; its age stops at 255; its fields stay (R101, R102, R104, R105). -/
def Obligations.RecordFreshForThreshold : Prop :=
  ∀ (α : Type) (x : α) (threshold takes : Nat), threshold ≤ 50 → 1 ≤ takes →
    let r := Aged.advance^[takes] { fields := x, age := 0 }
    (r.mark threshold false).fresh = decide (takes ≤ threshold) ∧ (r.mark threshold true).fresh = false ∧
      (r.mark threshold false).age = min takes 255 ∧ r.fields = x ∧
      ∀ b, (Aged.advance^[takes] { fields := x, age := 255 }).mark threshold b =
        { fields := x, age := 255, fresh := false }

/-! ### The Limit Table -/

/-- LIMIT_POST is checked in the order of R58's table; a refused posting changes nothing in the table, and an
accepted one becomes the newest record, in place of the sender's record with the tag, its value brought
into the range of its kind (R56 to R60). -/
def Obligations.LimitPostJudged : Prop :=
  ∀ (s : State) (l : Link) (f : Frame), s.Serves l f → f.Passes .limitPost l →
    let tag := u8 f.payload 0
    let value := u16 f.payload 3
    let lifetime := u8 f.payload 5
    let held := (s.limits.filter fun r => r.owner = l).length
    (15 < tag ∨ 2 < u8 f.payload 1 ∨ 3 < u8 f.payload 2 →
      exec .limitPost s = .next (s.answered l f .badField [])) ∧
    ∀ (axle : LimitAxle) (kind : LimitKind), tag ≤ 15 → u8 f.payload 1 = axle.code → u8 f.payload 2 = kind.code →
      let foreign := l = .fdi ∧ axle ≠ .front ∨ l = .rdi ∧ axle ≠ .rear
      let endless := (l = .fdi ∨ l = .rdi) ∧ lifetime = 0
      let full := (∀ r ∈ s.limits, ¬ (r.owner = l ∧ r.tag = tag)) ∧ 4 ≤ held
      (foreign → exec .limitPost s = .next (s.answered l f .notPermitted [])) ∧
      (¬ foreign → endless → exec .limitPost s = .next (s.answered l f .badField [])) ∧
      (¬ foreign → ¬ endless → full → exec .limitPost s = .next (s.answered l f .limitFull [])) ∧
      (¬ foreign → ¬ endless → ¬ full →
        let stored := match kind with
          | .driveCeil  => min value 16000
          | .regenCeil  => min value 16000
          | .rateCeil   => max 10 (min 4000 value)
          | .noTransfer => 0
        let table := s.limits.filter (fun r => ¬ (r.owner = l ∧ r.tag = tag)) ++
          [{ owner := l, tag := tag, axle := axle, kind := kind, value := stored, lifetime := lifetime
             remaining := lifetime }]
        exec .limitPost s = .next
          { s.answered l f (if kind ≠ .noTransfer ∧ stored ≠ value then .clamped else .ok)
              (nat2 stored ++ byte1 (table.filter fun r => r.owner = l).length ++ byte1 table.length) with
            limits := table })

/-- LIMIT_WITHDRAW, whole: a tag above 15 is BAD_FIELD; the sender's record with the tag, whatever its
lifetime and remaining count, is removed with OK and the two counts; otherwise NOT_FOUND; no other record
changes; and the record is absent from the copy of the next pass. -/
def Obligations.LimitWithdrawJudged : Prop :=
  ∀ (s : State) (l : Link) (f : Frame), s.Serves l f → f.Passes .limitWithdraw l → LimitsOk s.limits →
    let tag := u8 f.payload 0
    let table := s.limits.filter fun r => ¬ (r.owner = l ∧ r.tag = tag)
    (15 < tag → exec .limitWithdraw s = .next (s.answered l f .badField [])) ∧
    (tag ≤ 15 → (∀ r ∈ s.limits, ¬ (r.owner = l ∧ r.tag = tag)) →
      exec .limitWithdraw s = .next (s.answered l f .notFound [])) ∧
    (tag ≤ 15 → (∃ r ∈ s.limits, r.owner = l ∧ r.tag = tag) → ∃ t,
      exec .limitWithdraw s = .next t ∧
      t = { s.answered l f .ok (byte1 (table.filter fun r => r.owner = l).length ++ byte1 table.length) with
            limits := table } ∧
      (table.filter fun r => r.owner = l).length ≤ 3 ∧ table.length + 1 = s.limits.length ∧ table.length ≤ 15 ∧
      (∀ r ∈ s.limits, r.owner ≠ l ∨ r.tag ≠ tag → r ∈ t.limits) ∧
      ∀ time x, (t.takeBoundary time).ale.pass = some x →
        x.copy.limits = table ∧ ∀ r ∈ x.copy.limits, ¬ (r.owner = l ∧ r.tag = tag))

/-- LIMIT_LIST, whole: a start index below the count is answered OK with the count, the record at that
position and the next index; any other NOT_FOUND with the count; the table does not change. -/
def Obligations.LimitListAnswered : Prop :=
  ∀ (s : State) (l : Link) (f : Frame), s.Serves l f → f.Passes .limitList l → LimitsOk s.limits →
    let i := u8 f.payload 0
    let count := s.limits.length
    count ≤ 16 ∧
    (∀ r : Limit, s.limits[i]? = some r →
      1 ≤ count ∧ (r.remaining = 0 ↔ r.lifetime = 0) ∧
      exec .limitList s = .next (s.answered l f .ok
        [BitVec.ofNat 8 count, BitVec.ofNat 8 r.owner.number, BitVec.ofNat 8 r.tag, BitVec.ofNat 8 r.axle.code,
         BitVec.ofNat 8 r.kind.code, BitVec.ofNat 8 r.value, BitVec.ofNat 8 (r.value / 256),
         BitVec.ofNat 8 r.remaining, BitVec.ofNat 8 (if i + 1 < count then i + 1 else 255)])) ∧
    (count ≤ i → exec .limitList s = .next (s.answered l f .notFound [BitVec.ofNat 8 count])) ∧
    ∀ st data, (s.answered l f st data).limits = s.limits

/-- A record with lifetime n counts in exactly the next n takes: the k-th hands it over with n − k + 1
passes left, the n-th removes it, and the others keep their order; a record of lifetime 0 stays (R57, R62,
R63, R64). -/
def Obligations.LimitCountsInItsLifetime : Prop :=
  ∀ (table : List Limit) (r : Limit), LimitsOk table → r ∈ table → r.remaining = r.lifetime →
    (∀ k, k < r.lifetime → { r with remaining := r.lifetime - k } ∈ consumeLimits^[k] table) ∧
    (1 ≤ r.lifetime → ∀ k, r.lifetime ≤ k → ∀ q ∈ consumeLimits^[k] table, ¬ (q.owner = r.owner ∧ q.tag = r.tag)) ∧
    (r.lifetime = 0 → ∀ k, r ∈ consumeLimits^[k] table) ∧
    ∀ k, ((consumeLimits^[k] table).map fun q => (q.owner, q.tag)).Sublist (table.map fun q => (q.owner, q.tag))

/-! ### The Split Map -/

/-- MAP_STAGE with a key byte in 8 to 254 is refused and keeps the buffer; any other stages its keys (255
is ANY) and its policy values brought into range, answered CLAMPED when one was changed and OK otherwise
(R39, R40). -/
def Obligations.MapStageJudged : Prop :=
  ∀ (s : State) (l : Link) (f : Frame), s.Serves l f → f.Passes .mapStage l →
    ((∃ i < 3, 8 ≤ u8 f.payload i ∧ u8 f.payload i ≤ 254) →
      exec .mapStage s = .next (s.answered l f .badField [])) ∧
    ∀ load grade speed : KeyField,
      load.toNat = u8 f.payload 0 → grade.toNat = u8 f.payload 1 → speed.toNat = u8 f.payload 2 →
      exec .mapStage s = .next
        { s.answered l f
            (if 1000 < u16 f.payload 3 ∨ 250 < u8 f.payload 5 ∨ 16000 < u16 f.payload 7 then .clamped else .ok) [] with
          map := { s.map with
            staged := true
            stage := { key := { load := load, grade := grade, speed := speed }
                       policy := { share := min 1000 (u16 f.payload 3), slipTarget := min 250 (u8 f.payload 5)
                                   gain := u8 f.payload 6, transferCap := min 16000 (u16 f.payload 7) } } } }

/-- MAP_COMMIT, whole: the five rows of R43's table in order, with the staged flag and the pending slot each
leaves; a busy commit keeps what it needs to succeed once the slot is empty. -/
def Obligations.MapCommitJudged : Prop :=
  ∀ (s : State) (l : Link) (f : Frame), s.Serves l f → f.Passes .mapCommit l →
    let set := u8 f.payload 0
    let way := u8 f.payload 1
    let fits := u8 f.payload 2 + (set * 16 + way) % 256 = 255
    (¬ fits → exec .mapCommit s = .next
      { s.answered l f .badComplement [] with map := { s.map with staged := false } }) ∧
    (fits → 15 < set ∨ 4 < way → exec .mapCommit s = .next (s.answered l f .badField [])) ∧
    (fits → set ≤ 15 → way ≤ 4 → s.map.staged = false → exec .mapCommit s = .next (s.answered l f .wrongState [])) ∧
    (fits → set ≤ 15 → way ≤ 4 → s.map.staged = true → s.map.slot ≠ .empty →
      exec .mapCommit s = .next (s.answered l f .pendingBusy []) ∧
      ∃ u, exec .mapCommit { s with map := { s.map with slot := .empty } } = .next u ∧
        u.map.staged = false ∧ ∃ n choice, u.map.slot = .write s.map.stage n choice) ∧
    ∀ (n : Fin 16) (choice : WayChoice), fits → n.val = set →
      (choice = .auto ∧ way = 4 ∨ ∃ w : Fin 4, choice = .way w ∧ way = w.val) →
      s.map.staged = true → s.map.slot = .empty →
      exec .mapCommit s = .next { s.answered l f .ok [] with
        map := { s.map with staged := false, slot := .write s.map.stage n choice } }

/-- MAP_FLUSH places a flush in an empty pending slot with OK and is refused with PENDING_BUSY by an occupied
one; the staging buffer and the array stand (R50). -/
def Obligations.MapFlushJudged : Prop :=
  ∀ (s : State) (l : Link) (f : Frame), s.Serves l f → f.Passes .mapFlush l →
    (s.map.slot = .empty →
      exec .mapFlush s = .next { s.answered l f .ok [] with map := { s.map with slot := .flush } }) ∧
    (s.map.slot ≠ .empty → exec .mapFlush s = .next (s.answered l f .pendingBusy []))

/-- MAP_READ answers an entry with its set's LRU order, most recently used way in the low bits, and valid
mask, and MAP_PROBE the entry a lookup would select, or the active defaults on a miss; a field out of
range is refused; neither changes the map (R51, R52). -/
def Obligations.MapReadAndProbeAnswered : Prop :=
  ∀ (s : State) (l : Link) (f : Frame) (o0 o1 o2 o3 : Fin 4), s.Serves l f →
    (f.Passes .mapRead l →
      (15 < u8 f.payload 0 ∨ 3 < u8 f.payload 1 → exec .mapRead s = .next (s.answered l f .badField [])) ∧
      ∀ (n : Fin 16) (w : Fin 4), u8 f.payload 0 = n.val → u8 f.payload 1 = w.val →
        (s.map.set n).lru = [o0, o1, o2, o3] →
        let e := (s.map.set n).entry w
        let valid := fun v : Fin 4 => ((s.map.set n).entry v).valid.toNat
        exec .mapRead s = .next (s.answered l f .ok
          [BitVec.ofNat 8 e.valid.toNat, BitVec.ofNat 8 e.content.key.load.toNat, BitVec.ofNat 8 e.content.key.grade.toNat,
           BitVec.ofNat 8 e.content.key.speed.toNat, BitVec.ofNat 8 e.content.policy.share,
           BitVec.ofNat 8 (e.content.policy.share / 256), BitVec.ofNat 8 e.content.policy.slipTarget,
           BitVec.ofNat 8 e.content.policy.gain, BitVec.ofNat 8 e.content.policy.transferCap,
           BitVec.ofNat 8 (e.content.policy.transferCap / 256),
           BitVec.ofNat 8 (o0.val + 4 * o1.val + 16 * o2.val + 64 * o3.val),
           BitVec.ofNat 8 (valid 0 + 2 * valid 1 + 4 * valid 2 + 8 * valid 3)])) ∧
    (f.Passes .mapProbe l →
      (7 < u8 f.payload 0 ∨ 1 < u8 f.payload 1 ∨ 7 < u8 f.payload 2 ∨ 7 < u8 f.payload 3 ∨ 7 < u8 f.payload 4 →
        exec .mapProbe s = .next (s.answered l f .badField [])) ∧
      ∀ k : MapKey, u8 f.payload 0 * 2 + u8 f.payload 1 = k.set.val → u8 f.payload 1 ≤ 1 →
        u8 f.payload 2 = k.load.val → u8 f.payload 3 = k.grade.val → u8 f.payload 4 = k.speed.val →
        let found := (s.map.set k.set).select k
        let p : Policy := match found with
          | some w => ((s.map.set k.set).entry w).content.policy
          | none   => { share := s.act.active.val .defaultShare, slipTarget := s.act.active.val .defaultSlipTarget
                        gain := s.act.active.val .defaultSlipGain, transferCap := s.act.active.val .defaultTransferCap }
        exec .mapProbe s = .next (s.answered l f .ok
          [BitVec.ofNat 8 found.isSome.toNat, BitVec.ofNat 8 (found.getD 0).val, BitVec.ofNat 8 p.share,
           BitVec.ofNat 8 (p.share / 256), BitVec.ofNat 8 p.slipTarget, BitVec.ofNat 8 p.gain,
           BitVec.ofNat 8 p.transferCap, BitVec.ofNat 8 (p.transferCap / 256)]))

/-- The lookup, whole: a valid entry matches a key when each key field equals the key's band or is ANY, an
invalid one never; of the matching entries the one with the fewest ANY fields, counted over its three key
fields, is selected, of equals the one with the lowest way number; the LRU order does not enter. -/
def Obligations.LookupSelectsMostSpecific : Prop :=
  (∀ k : EntryKey, k.anyCount =
    (if k.load = .any then 1 else 0) + (if k.grade = .any then 1 else 0) + (if k.speed = .any then 1 else 0)) ∧
  (∀ (e : Entry) (k : MapKey), e.matchesKey k = true ↔ e.valid = true ∧
    (e.content.key.load = .band k.load ∨ e.content.key.load = .any) ∧
    (e.content.key.grade = .band k.grade ∨ e.content.key.grade = .any) ∧
    (e.content.key.speed = .band k.speed ∨ e.content.key.speed = .any)) ∧
  (∀ (e : Entry) (k : MapKey), e.valid = true → e.content.key = { load := .any, grade := .any, speed := .any } →
    e.matchesKey k = true) ∧
  (∀ (e : Entry) (b c d : Fin 8), e.valid = true → e.content.key = { load := .band b, grade := .band c, speed := .band d } →
    ∀ k : MapKey, e.matchesKey k = true ↔ k.load = b ∧ k.grade = c ∧ k.speed = d) ∧
  (∀ (m : MapSet) (k : MapKey), (m.select k = none ↔ ∀ w, (m.entry w).matchesKey k = false) ∧
    ∀ w, m.select k = some w ↔ (m.entry w).matchesKey k = true ∧
      ∀ v, (m.entry v).matchesKey k = true →
        (m.entry w).content.key.anyCount < (m.entry v).content.key.anyCount ∨
        (m.entry w).content.key.anyCount = (m.entry v).content.key.anyCount ∧ w ≤ v) ∧
  ∀ (m : MapSet) (k : MapKey) (lru : List (Fin 4)), ({ m with lru := lru } : MapSet).select k = m.select k

/-- The pending operation at a pass start. A write goes to the way named, or under AUTO to the lowest invalid
way or, in a full set, to the last way of the LRU order; another valid way with the same key becomes
invalid and last in the order; the written way is first. A flush makes every entry invalid, keeps the
contents and sets every order to 0, 1, 2, 3. Other sets and the staging buffer stand, and the slot is
empty afterwards (R45 to R49). -/
def Obligations.PendingMapOperationApplied : Prop :=
  (∀ (m : SplitMap) (c : Content) (n : Fin 16) (choice : WayChoice), m.Ok → m.slot = .write c n choice →
    ∃ w : Fin 4,
      let x := m.set n
      let y := m.applyPending.set n
      let evicted := fun v : Fin 4 => decide (v ≠ w ∧ (x.entry v).valid = true ∧ (x.entry v).content.key = c.key)
      (∀ v, choice = .way v → w = v) ∧
      (choice = .auto → (∃ v, (x.entry v).valid = false) → (x.entry w).valid = false ∧ ∀ v < w, (x.entry v).valid = true) ∧
      (choice = .auto → (∀ v, (x.entry v).valid = true) → x.lru.getLast? = some w) ∧
      y.entry w = { valid := true, content := c } ∧
      (∀ v, v ≠ w → y.entry v = { x.entry v with valid := (x.entry v).valid && !evicted v }) ∧
      y.lru = w :: (x.lru.filter (fun v => decide (v ≠ w) && !evicted v) ++ x.lru.filter evicted) ∧
      (∀ k, k ≠ n → m.applyPending.set k = m.set k) ∧ m.applyPending.slot = .empty ∧
      m.applyPending.stage = m.stage ∧ m.applyPending.staged = m.staged) ∧
  (∀ m : SplitMap, m.slot = .flush →
    (∀ n w, ((m.applyPending.set n).entry w) = { (m.set n).entry w with valid := false }) ∧
    (∀ n, (m.applyPending.set n).lru = [0, 1, 2, 3]) ∧ m.applyPending.slot = .empty ∧
    m.applyPending.stage = m.stage ∧ m.applyPending.staged = m.staged ∧
    ∀ n k, (m.applyPending.set n).select k = none) ∧
  ∀ m : SplitMap, m.slot = .empty → m.applyPending = m

/-! ### Allocator Control -/

/-- CONFIG_WRITE with an index above 22 is refused; any other value is brought into its parameter's range and,
in STANDBY, becomes active at once, discarding a pending one and disarming the index check of an axle
whose CPR it changes or whose INDEX_USE bit it clears; in every other state it becomes the pending value
(R91, R92, R134, R136, R137). -/
def Obligations.ConfigWriteJudged : Prop :=
  ∀ (s : State) (l : Link) (f : Frame), s.Serves l f → f.Passes .configWrite l →
    (22 < u8 f.payload 0 → exec .configWrite s = .next (s.answered l f .badField [])) ∧
    ∀ q : Param, q.index.val = u8 f.payload 0 →
      let stored := max q.low (min q.high (u16 f.payload 1))
      let status := if stored = u16 f.payload 1 then Status.ok else Status.clamped
      let data := fun d : Nat => [BitVec.ofNat 8 q.index.val, BitVec.ofNat 8 stored, BitVec.ofNat 8 (stored / 256), BitVec.ofNat 8 d]
      (s.act.state = .standby → ∃ t, exec .configWrite s = .next t ∧
        t = { s.answered l f status (data 0) with act := t.act, asu := t.asu } ∧
        t.act = { s.act with active := t.act.active, pendingVals := t.act.pendingVals } ∧
        t.act.active.val q = stored ∧ t.act.pendingOf q = none ∧
        (∀ r, r ≠ q → t.act.active.val r = s.act.active.val r ∧ t.act.pendingOf r = s.act.pendingOf r) ∧
        ∀ a, t.asuOf a = { s.asuOf a with
          armed := (s.asuOf a).armed && decide (t.act.active.cpr a = s.act.active.cpr a) &&
            (!s.act.active.indexUse a || t.act.active.indexUse a) }) ∧
      (s.act.state ≠ .standby → ∃ t, exec .configWrite s = .next t ∧
        t = { s.answered l f status (data 1) with act := t.act } ∧
        t.act = { s.act with pendingVals := t.act.pendingVals } ∧ t.act.pendingOf q = some stored ∧
        ∀ r, r ≠ q → t.act.pendingOf r = s.act.pendingOf r)

/-- CONFIG_READ, whole: an index above 22 is refused; otherwise the answer gives the index, the active value,
the pending value or, where none is pending, the active value again, and the pending flag, as ACT holds
them; no value and no flag changes. -/
def Obligations.ConfigReadAnswered : Prop :=
  ∀ (s : State) (l : Link) (f : Frame), s.Serves l f → f.Passes .configRead l →
    (22 < u8 f.payload 0 → exec .configRead s = .next (s.answered l f .badField [])) ∧
    (∀ q : Param, q.index.val = u8 f.payload 0 →
      let active := s.act.active.val q
      let shown := match s.act.pendingOf q with
        | some v => v
        | none   => active
      exec .configRead s = .next (s.answered l f .ok
        [BitVec.ofNat 8 q.index.val, BitVec.ofNat 8 active, BitVec.ofNat 8 (active / 256), BitVec.ofNat 8 shown,
         BitVec.ofNat 8 (shown / 256), BitVec.ofNat 8 (if s.act.pendingOf q = none then 0 else 1)])) ∧
    ∀ st data, (s.answered l f st data).act = s.act

/-- ALLOC_ENABLE enters RUN from any state with OK while the filtered level is high and is refused with
WRONG_STATE while it is low; ALLOC_DISABLE takes RUN to RAMPDOWN and FORCED_OFF to STANDBY and leaves the
other states, with OK. The data byte is the state after the request; a pass in flight keeps the state it
took (R6, R126, R127). -/
def Obligations.EnableAndDisable : Prop :=
  ∀ (s : State) (l : Link) (f : Frame), s.Serves l f →
    (f.Passes .allocEnable l →
      (s.act.filtered = true →
        exec .allocEnable s = .next { s.answered l f .ok [1] with act := { s.act with state := .run } }) ∧
      (s.act.filtered = false →
        exec .allocEnable s = .next (s.answered l f .wrongState [BitVec.ofNat 8 s.act.state.code]))) ∧
    (f.Passes .allocDisable l →
      (s.act.state = .run ∨ s.act.state = .rampdown →
        exec .allocDisable s = .next { s.answered l f .ok [2] with act := { s.act with state := .rampdown } }) ∧
      (s.act.state = .standby ∨ s.act.state = .forcedOff →
        exec .allocDisable s = .next { s.answered l f .ok [0] with act := { s.act with state := .standby } })) ∧
    ∀ st data, (s.answered l f st data).ale = s.ale

/-- The TOFF_N filter. A change of the pin restarts the count of the held time. A level held for 5 µs (200
clock periods) that is not the filtered one is taken. A rising changes the filtered level alone, so the
state stays and ALLOC_ENABLE is accepted from then on; and FORCED_OFF is left by no command but
ALLOC_ENABLE, ALLOC_DISABLE and RESET (R130, R132). The pin stands at the new level (log 7). -/
def Obligations.ToffFilterAndRising : Prop :=
  (∀ (s : State) (h : Bool), s.inReset = false → s.act.pinLevel ≠ h →
    exec (.toffNPinChange h) s = .next
      { s with act := { s.act with pinLevel := h, held := 0 }, pins := { s.pins with toffN := h } }) ∧
  (∀ s : State, s.inReset = false → s.act.pinLevel = true → s.act.filtered = false → 200 ≤ s.act.held →
    exec .toffNRising s = .next { s with act := { s.act with filtered := true } } ∧
    ∀ f, s.Serves .vsc f → f.Passes .allocEnable .vsc →
      ∃ t, runAll [.toffNRising, .allocEnable] s = some t ∧ t.act.state = .run) ∧
  (∀ (s t : State) (c : Instr), s.act.state = .forcedOff → exec c s = .next t →
    c ≠ .allocEnable → c ≠ .allocDisable → c ≠ .reset → t.act.state = .forcedOff)

/-- A falling of TOFF_N takes FORCED_OFF from any state, zeroes both published commands, clears both last
signs, holds and HOLD flags, marks a pass in flight, and queues an AXLE_COMMAND with torque 0 and OFF for
each inverter; the rest of the record and every other block stand (R131, R143, R146). A periodic frame that
is queued replaces the unsent frame of its kind in its position, is otherwise the newest, and begins at once
on an idle line, clearing LINK_EVENT when it carries the flag (R147, R148, R173). -/
def Obligations.ToffFallingForcesOff : Prop :=
  (∀ (u : Liu) (f : Frame),
    (u.tx ≠ .idle → (∀ g ∈ u.txQueue, g.kind ≠ f.kind) →
      u.putPeriodic f = { u with txQueue := u.txQueue ++ [f] }) ∧
    (u.tx ≠ .idle → ∀ before g behind, u.txQueue = before ++ g :: behind → g.kind = f.kind →
      (∀ h ∈ before, h.kind ≠ f.kind) → u.putPeriodic f = { u with txQueue := before ++ f :: behind }) ∧
    (u.tx = .idle → u.txQueue = [] →
      u.putPeriodic f = { u with tx := .sending f 0, linkEvent := u.linkEvent && !f.linkEvent })) ∧
  ∀ s : State, s.inReset = false → s.act.pinLevel = false → s.act.filtered = true → 200 ≤ s.act.held →
    let command := fun a : Axle => ({ kind := 0x21, tag := 0
                                      payload := [0, 0, s.ptm.periodCount.setWidth 8,
                                        flagByte [true, false, false, (s.ale.published.flags.get a).slipCut,
                                          (s.ale.published.flags.get a).bound, (s.ale.published.flags.get a).envStale,
                                          (s.liuOf a.link).linkEvent]] } : Frame)
    ∃ t, exec .toffNFalling s = .next t ∧
      t = { s with act := { s.act with filtered := false, state := .forcedOff }, ale := t.ale, liu := t.liu } ∧
      t.ale.published = { s.ale.published with
        torque := { front := 0, rear := 0 }
        flags := PerAxle.of fun a => { s.ale.published.flags.get a with hold := false } } ∧
      t.ale.carried = { s.ale.carried with
        axle := PerAxle.of fun a => { s.ale.carried.axle.get a with lastSign := .none, holdActive := false } } ∧
      t.ale.pass = s.ale.pass.map (fun x => { x with toffTaken := true }) ∧
      (∀ a : Axle, t.liuOf a.link = (s.liuOf a.link).putPeriodic (command a)) ∧
      t.liuOf .vsc = s.liuOf .vsc ∧ t.liuOf .sbc = s.liuOf .sbc

/-- STATUS_QUERY is answered with the state, the published figures, the count of taken boundaries, the flags
and the link-fault mask as they stand, and changes none of its sources (R149). -/
def Obligations.StatusQueryAnswered : Prop :=
  ∀ (s : State) (l : Link) (f : Frame), s.Serves l f → f.Passes .statusQuery l →
    let p := s.ale.published
    let faulted := fun m : Link => (s.liuOf m).faulted.toNat
    exec .statusQuery s = .next (s.answered l f .ok
      [BitVec.ofNat 8 s.act.state.code,
       BitVec.ofInt 8 p.torque.front, BitVec.ofInt 8 (p.torque.front / 256),
       BitVec.ofInt 8 p.torque.rear, BitVec.ofInt 8 (p.torque.rear / 256),
       BitVec.ofInt 8 p.demand, BitVec.ofInt 8 (p.demand / 256),
       BitVec.ofInt 8 p.shortfall, BitVec.ofInt 8 (p.shortfall / 256),
       BitVec.ofNat 8 p.share, BitVec.ofNat 8 (p.share / 256),
       s.ptm.periodCount.setWidth 8,
       BitVec.ofNat 8 (2 * p.demandStale.toNat + 8 * (Param.all.any fun q => (s.act.pendingOf q).isSome).toNat +
         16 * (decide (s.map.slot ≠ .empty)).toNat + 32 * (decide (s.ptm.mode = .synced)).toNat + 128 * p.mapMiss.toNat),
       BitVec.ofNat 8 (faulted .vsc + 2 * faulted .fdi + 4 * faulted .rdi + 8 * faulted .sbc)])

/-! ### The Axle Speed Units -/

/-- A counted edge is FORWARD one place along the sequence of R75 and REVERSE against it, and moves both
counts by one, saturating at ±32767; it is the newest of at most five history entries of one direction,
and a change of direction empties the history before it. A history whose newest entry is 65536 µs old is
emptied, the last direction kept (R75, R77). The pin stands at the new level (log 7); the age is read
from the time base (log 15). -/
def Obligations.CountedEdgeAndHistory : Prop :=
  ∀ (s : State) (a : Axle) (p : Phase), s.inReset = false →
    let u := s.asuOf a
    let pair := match p with
      | .a => (!u.levelA, u.levelB)
      | .b => (u.levelA, !u.levelB)
    let dir : Direction := if forwardNext (u.levelA, u.levelB) = pair then .forward else .reverse
    let turned := u.lastDir ≠ none ∧ u.lastDir ≠ some dir
    let entry : EdgeEntry := { time := s.timeBase, dir := dir }
    let moved := fun n : Int => match dir with
      | .forward => min 32767 (max (-32767) (n + 1))
      | .reverse => min 32767 (max (-32767) (n - 1))
    (dir = .reverse → forwardNext pair = (u.levelA, u.levelB)) ∧
    exec (.countedEdge a p) s = .next { s with
      asu := s.asu.set a { u with
        levelA := pair.1, levelB := pair.2
        windowCount := moved u.windowCount, sinceIndex := moved u.sinceIndex
        history := if turned then [entry] else (entry :: u.history).take 5
        dirChanged := u.dirChanged || decide turned
        lastDir := some dir }
      pins := { s.pins with sensor := s.pins.sensor.set a { s.pins.sensor.get a with a := pair.1, b := pair.2 } } } ∧
    ∀ e es, u.history = e :: es → 65536 ≤ (s.timeBase - e.time).toNat →
      exec (.edgeHistoryExpiry a) s = .next { s with asu := s.asu.set a { u with history := [] } }

/-- A phase error, whole: both levels are taken, the counts and the last direction stand, the window is
marked, the history is emptied and the index check disarmed; a second one leaves the mark set; the next Z
rising edge, with the check enabled, arms it again and gives no evidence (R76, R83). The pins of A and B stand
at the new levels (log 7). The Z rising edge is taken whatever the line's level was (log 24). -/
def Obligations.PhaseErrorMarksWindow : Prop :=
  ∀ (s : State) (a : Axle), s.inReset = false → ∃ t, exec (.phaseError a) s = .next t ∧
    t.asuOf a = { s.asuOf a with
      levelA := !(s.asuOf a).levelA, levelB := !(s.asuOf a).levelB, phaseError := true, history := [], armed := false } ∧
    t = { s with asu := s.asu.set a (t.asuOf a), pins := t.pins } ∧
    (let lines : SensorPins := { s.pins.sensor.get a with a := (t.asuOf a).levelA, b := (t.asuOf a).levelB }
     t.pins = { s.pins with sensor := s.pins.sensor.set a lines }) ∧
    (∃ u, exec (.phaseError a) t = .next u ∧ (u.asuOf a).phaseError = true ∧ (u.asuOf a).faultCount = (s.asuOf a).faultCount) ∧
    ∃ v, exec (.zRisingEdge a) t = .next v ∧
      (v.asuOf a).armed = s.act.active.indexUse a ∧ (v.asuOf a).sinceIndex = 0 ∧
      (v.asuOf a).health = (s.asuOf a).health ∧ (v.asuOf a).faultCount = (s.asuOf a).faultCount ∧
      (v.asuOf a).goodRun = (s.asuOf a).goodRun

/-- A Z rising edge zeroes the count since index. Disabled, it clears the direction-changed flag; unarmed,
it arms; after a change of direction it compares nothing; otherwise a count within INDEX_TOLERANCE of
CPR is good evidence and any other bad (R83, R84). The pin stands high (log 7). The command is the edge it
names whatever the line's level was (log 24). -/
def Obligations.ZRisingEdgeChecksIndex : Prop :=
  ∀ (s : State) (a : Axle), s.inReset = false →
    let u := s.asuOf a
    let c := s.act.active
    let off : Nat := ((u.sinceIndex.natAbs : Int) - c.cpr a).natAbs
    let after := fun v : Asu => ({ s with
      asu := s.asu.set a { v with sinceIndex := 0, levelZ := true }
      pins := { s.pins with sensor := s.pins.sensor.set a { s.pins.sensor.get a with z := true } } } : State)
    (c.indexUse a = false → exec (.zRisingEdge a) s = .next (after { u with dirChanged := false })) ∧
    (c.indexUse a = true → u.armed = false →
      exec (.zRisingEdge a) s = .next (after { u with dirChanged := false, armed := true })) ∧
    (c.indexUse a = true → u.armed = true → u.dirChanged = true →
      exec (.zRisingEdge a) s = .next (after { u with dirChanged := false })) ∧
    (c.indexUse a = true → u.armed = true → u.dirChanged = false → off ≤ c.val .indexTolerance →
      exec (.zRisingEdge a) s = .next (after u.goodEvidence)) ∧
    (c.indexUse a = true → u.armed = true → u.dirChanged = false → c.val .indexTolerance < off →
      exec (.zRisingEdge a) s = .next (after u.badEvidence))

/-- The speed of a window: COUNT with 16 counts or more and a window of 1 µs or more; else EDGE over five
entries that span at most 65535 µs, the newest at most 65535 µs old at the close; else 0; truncated toward
zero, within ±65535, with the sign of the movement (R79 to R82). -/
def Obligations.WindowSpeedByMethod : Prop :=
  ∀ (u : Asu) (cpr : Nat) (now : Time), 8 ≤ cpr → u.Ok →
    let w := (now - u.windowStart).toNat
    let clamped := fun v : Int => max (-65535) (min 65535 v)
    (16 ≤ |u.windowCount| → 1 ≤ w →
      u.windowSpeed cpr now = clamped ((u.windowCount * 240000000).tdiv (cpr * w)) ∧
      0 ≤ u.windowSpeed cpr now * u.windowCount) ∧
    (∀ e0 e1 e2 e3 e4, ¬ (16 ≤ |u.windowCount| ∧ 1 ≤ w) → u.history = [e0, e1, e2, e3, e4] →
      (e0.time - e4.time).toNat ≤ 65535 → (now - e0.time).toNat ≤ 65535 →
      let dt := max (max (e0.time - e4.time).toNat (now - e0.time).toNat) 1
      (e0.dir = .forward → u.windowSpeed cpr now = clamped ((960000000 / (cpr * dt) : Nat) : Int)) ∧
      (e0.dir = .reverse → u.windowSpeed cpr now = clamped (-((960000000 / (cpr * dt) : Nat) : Int))) ∧
      ∀ e ∈ u.history, e.dir = e0.dir) ∧
    (¬ (16 ≤ |u.windowCount| ∧ 1 ≤ w) →
      (u.history.length < 5 ∨ ∃ e0 e1 e2 e3 e4, u.history = [e0, e1, e2, e3, e4] ∧
        (65535 < (e0.time - e4.time).toNat ∨ 65535 < (now - e0.time).toNat)) →
      u.windowSpeed cpr now = 0) ∧
    |u.windowSpeed cpr now| ≤ 65535

/-- Three bad evidences in a row bring any sensor to FAULT; one good one brings a SUSPECT sensor back to
GOOD; a sensor in FAULT needs 16 good ones in a row, and a bad one among them starts the run again (R87). -/
def Obligations.HealthFollowsEvidence : Prop :=
  ∀ u : Asu, u.HealthOk →
    (Asu.badEvidence^[3] u).health = .fault ∧ (Asu.badEvidence^[3] u).faultCount = 3 ∧
    (u.health ≠ .fault → u.goodEvidence.health = .good ∧ u.goodEvidence.faultCount = 0 ∧ u.badEvidence.goodRun = 0 ∧
      (u.badEvidence.health = .fault ↔ u.faultCount = 2)) ∧
    (u.health = .fault → ∀ n, n ≤ 16 →
      let v := Asu.goodEvidence^[n] { u with goodRun := 0 }
      (v.health = .good ↔ n = 16) ∧ (n < 16 → v.health = .fault ∧ v.goodRun = n ∧
        v.badEvidence.goodRun = 0 ∧ v.badEvidence.health = .fault) ∧ (n = 16 → v.faultCount = 0)) ∧
    ∀ v ∈ [u.goodEvidence, u.badEvidence], v.HealthOk ∧ v.windowCount = u.windowCount ∧ v.history = u.history ∧
      v.sinceIndex = u.sinceIndex ∧ v.armed = u.armed ∧ v.dirChanged = u.dirChanged ∧ v.latched = u.latched

/-! ### The Period Timer and the pass start -/

/-- The internal timer's expiry is a boundary at that time and schedules the next INTERNAL_PERIOD later,
taken or skipped. With a pass in flight it is skipped: SKIPPED is set and nothing else moves. With none it
is taken (R115, R118, R119). The period is the one active before this boundary's pass start (log 11). -/
def Obligations.TimerExpiryIsABoundary : Prop :=
  ∀ s : State, s.inReset = false → s.ptm.timer = some s.timeBase →
    let next := some (s.timeBase + BitVec.ofNat 32 (s.act.active.val .internalPeriod))
    (s.ale.pass ≠ none → exec .internalTimerExpiry s = .next { s with
      ptm := { s.ptm with timer := next, skipped := true, lastBoundary := s.timeBase } }) ∧
    (s.ale.pass = none →
      exec .internalTimerExpiry s =
        .next (State.takeBoundary { s with ptm := { s.ptm with timer := next } } s.timeBase) ∧
      ∀ t, exec .internalTimerExpiry s = .next t →
        t.ptm.timer = next ∧ t.ptm.lastBoundary = s.timeBase ∧ t.ptm.periodCount = s.ptm.periodCount + 1 ∧
        t.ptm.skipped = s.ptm.skipped ∧ t.ale.pass ≠ none)

/-- The one-shot's expiry makes it idle. In INTERNAL it zeroes the reacquire count. In SYNCED the line is
lost: INTERNAL, the count 0, and the first internal boundary INTERNAL_PERIOD after the last boundary, or
at once when that instant has passed (R112, R114; log 11). -/
def Obligations.OneShotExpiryLosesLine : Prop :=
  ∀ s : State, s.inReset = false → s.ptm.oneShot = some s.timeBase →
    let period := s.act.active.val .internalPeriod
    let lost := { s.ptm with oneShot := none, mode := .internal, reacquire := 0 }
    (s.ptm.mode = .internal → exec .oneShotExpiry s = .next { s with ptm := { s.ptm with oneShot := none, reacquire := 0 } }) ∧
    (s.ptm.mode = .synced → (s.timeBase - s.ptm.lastBoundary).toNat < period →
      exec .oneShotExpiry s = .next { s with ptm :=
        { lost with timer := some (s.ptm.lastBoundary + BitVec.ofNat 32 period) } }) ∧
    (s.ptm.mode = .synced → period ≤ (s.timeBase - s.ptm.lastBoundary).toNat →
      let u := { s with ptm := { lost with timer := some (s.timeBase + BitVec.ofNat 32 period) } }
      (s.ale.pass = none → exec .oneShotExpiry s = .next (u.takeBoundary s.timeBase)) ∧
      (s.ale.pass ≠ none → exec .oneShotExpiry s = .next { u with
        ptm := { u.ptm with skipped := true, lastBoundary := s.timeBase } }))

/-- An edge on SYNC_IN of the polarity in use, 20 µs or more after the last qualified one, is qualified: it
raises the reacquire count if the one-shot runs in INTERNAL, restarts the one-shot, and advances the
divider; a completion is a boundary in SYNCED, or in INTERNAL at a count of 16, which returns the timer to
SYNCED and stops the internal timer. Any other edge changes the line's level alone (R110, R111, R113,
R116, R117; log 7, 23). The command is the edge it names whatever the line's level was (log 24). -/
def Obligations.SyncEdgeQualifiedOrDiscarded : Prop :=
  ∀ (s : State) (rising : Bool), s.inReset = false →
    let p := s.ptm
    let s1 := { s with ptm := { p with level := rising }, pins := { s.pins with syncIn := rising } }
    let selected := p.select = .both ∨ p.select = .rising ∧ rising = true ∨ p.select = .falling ∧ rising = false
    let spaced := ∀ t, p.lastQualified = some t → 20 ≤ (s.timeBase - t).toNat
    let count := if p.mode = .internal ∧ p.oneShot ≠ none then min 16 (p.reacquire + 1) else p.reacquire
    let q := { s1.ptm with
      lastQualified := some s.timeBase, reacquire := count
      oneShot := some (s.timeBase + BitVec.ofNat 32 (s.act.active.val .syncTimeout)) }
    let at_gate := fun x : Ptm => if s.ale.pass = none
      then State.takeBoundary { s1 with ptm := x } s.timeBase
      else { s1 with ptm := { x with skipped := true, lastBoundary := s.timeBase } }
    (¬ (selected ∧ spaced) → exec (.syncInEdge rising) s = .next s1) ∧
    (selected → spaced → p.dividerCount + 1 < p.divider →
      exec (.syncInEdge rising) s = .next { s1 with ptm := { q with dividerCount := p.dividerCount + 1 } }) ∧
    (selected → spaced → p.divider ≤ p.dividerCount + 1 → p.mode = .synced →
      exec (.syncInEdge rising) s = .next (at_gate { q with dividerCount := 0 })) ∧
    (selected → spaced → p.divider ≤ p.dividerCount + 1 → p.mode = .internal → count = 16 →
      exec (.syncInEdge rising) s = .next
        (at_gate { q with dividerCount := 0, mode := .synced, timer := none, reacquire := 0 })) ∧
    (selected → spaced → p.divider ≤ p.dividerCount + 1 → p.mode = .internal → count ≠ 16 →
      exec (.syncInEdge rising) s = .next { s1 with ptm := { q with dividerCount := 0 } })

/-- A taken boundary, in the order of R1: the windows close under the old configuration; the pending
values become active; the pending map operation is applied; the ages advance and the image is copied with
its markings; the limits are copied and then lose one pass; the divider copies are loaded; and the lookup is
made on the map that results, moving the way it hits to the front, or falls back on the active defaults
(R1, R10, R37, R45, R62, R78, R86, R88, R89, R91, R92, R101, R120, R121). A moved CPR or a cleared INDEX_USE
bit disarms the axle's index check. The pass also takes the carried state and the previous commands, on which
its stages work (log 12). -/
def Obligations.TakenBoundaryHandsOver : Prop :=
  ∀ (s t : State) (time : Time), t = s.takeBoundary time →
    (∀ q, t.act.active.val q = (s.act.pendingOf q).getD (s.act.active.val q) ∧ t.act.pendingOf q = none) ∧
    t.act.state = s.act.state ∧ t.ale.carried = s.ale.carried ∧ t.ale.published = s.ale.published ∧
    t.limits = consumeLimits s.limits ∧ t.liu = s.liu ∧ t.pins = s.pins ∧ t.timeBase = s.timeBase ∧
    t.image.demand = s.image.demand.advance ∧ t.image.reference = s.image.reference.advance ∧
    (∀ a, t.image.envelope.get a = (s.image.envelope.get a).advance) ∧ t.image.inputClamped = s.image.inputClamped ∧
    t.ptm.periodCount = s.ptm.periodCount + 1 ∧ t.ptm.lastBoundary = time ∧
    t.ptm.select = EdgeSelect.ofValue (t.act.active.val .syncEdge) ∧ t.ptm.divider = t.act.active.val .syncDivider ∧
    t.ptm.dividerCount = (if t.ptm.select = s.ptm.select ∧ t.ptm.divider = s.ptm.divider then s.ptm.dividerCount else 0) ∧
    t.ptm.mode = s.ptm.mode ∧ t.ptm.oneShot = s.ptm.oneShot ∧ t.ptm.timer = s.ptm.timer ∧
    t.ptm.skipped = s.ptm.skipped ∧ t.ptm.reacquire = s.ptm.reacquire ∧ t.ptm.lastQualified = s.ptm.lastQualified ∧
    t.ptm.level = s.ptm.level ∧ t.statusCount = s.statusCount ∧ t.pointer = s.pointer ∧
    t.inReset = s.inReset ∧ t.subClock = s.subClock ∧ t.pending = s.pending ∧
    (∀ a, let u := s.asuOf a
      let v := if u.phaseError = true then u.badEvidence
        else if s.act.active.indexUse a = true then u else u.goodEvidence
      let usable := !u.phaseError && v.health != .fault
      (t.asuOf a).windowCount = 0 ∧ (t.asuOf a).windowStart = time ∧ (t.asuOf a).phaseError = false ∧
      (t.asuOf a).history = u.history ∧ (t.asuOf a).sinceIndex = u.sinceIndex ∧
      (t.asuOf a).levelA = u.levelA ∧ (t.asuOf a).levelB = u.levelB ∧ (t.asuOf a).levelZ = u.levelZ ∧
      (t.asuOf a).lastDir = u.lastDir ∧ (t.asuOf a).dirChanged = u.dirChanged ∧
      (t.asuOf a).health = v.health ∧ (t.asuOf a).faultCount = v.faultCount ∧ (t.asuOf a).goodRun = v.goodRun ∧
      ((t.asuOf a).armed = true ↔ u.armed = true ∧ t.act.active.cpr a = s.act.active.cpr a ∧
        (s.act.active.indexUse a = true → t.act.active.indexUse a = true)) ∧
      (t.asuOf a).latched.health = (t.asuOf a).health ∧
      (usable = true → (t.asuOf a).latched.state = .sensor ∧
        (t.asuOf a).latched.speed = u.windowSpeed (s.act.active.cpr a) time)) ∧
    ∃ x, t.ale.pass = some x ∧ x.toffTaken = false ∧ x.clocks = 0 ∧ x.latency ≤ 1600 ∧
      x.copy.config = t.act.active ∧ x.copy.allocState = s.act.state ∧ x.copy.limits = s.limits ∧
      (∀ a, x.copy.latched.get a = (t.asuOf a).latched) ∧ x.copy.carried = s.ale.carried ∧
      x.copy.prev = s.ale.published.torque ∧
      x.copy.image.demand = t.image.demand.mark (t.act.active.val .demandStale) (s.liuOf .vsc).faulted ∧
      x.copy.image.reference = t.image.reference.mark (t.act.active.val .referenceStale) (s.liuOf .sbc).faulted ∧
      (∀ a, x.copy.image.envelope.get a =
        (t.image.envelope.get a).mark (t.act.active.val .envelopeStale) (s.liuOf a.link).faulted) ∧
      (let k := passKey x.copy.image x.copy.latched
       let m := s.map.applyPending
       (∀ w, (m.set k.set).select k = some w →
          x.copy.policy = ((m.set k.set).entry w).content.policy ∧ x.copy.mapResult = { hit := true, set := k.set, way := w } ∧
          t.map.set k.set = { m.set k.set with lru := w :: (m.set k.set).lru.filter (fun v => decide (v ≠ w)) }) ∧
       ((m.set k.set).select k = none →
          x.copy.policy = t.act.active.defaultPolicy ∧ x.copy.mapResult = { hit := false, set := k.set, way := 0 } ∧
          t.map.set k.set = m.set k.set) ∧
       (∀ n, n ≠ k.set → t.map.set n = m.set n) ∧ t.map.stage = s.map.stage ∧ t.map.staged = s.map.staged ∧
       t.map.slot = .empty) ∧
      ∀ a, let u := s.asuOf a
        let e := x.copy.image.envelope.get a
        u.phaseError = true ∨ (u.windowEvidence (s.act.active.indexUse a)).health = .fault →
        (e.fresh = true → (t.asuOf a).latched.state = .substitute ∧ (t.asuOf a).latched.speed =
          max (-65535) (min 65535 ((e.fields.motorSpeed * 4000).tdiv (s.act.active.ratio a)))) ∧
        (e.fresh = false → (t.asuOf a).latched.state = .invalid ∧ (t.asuOf a).latched.speed = 0)

/-! ### The allocation pass -/

/-- A completion sets the record and the carried state together, ends RAMPDOWN when both commands are zero,
and queues the reports, byte by byte: the two AXLE_COMMANDs, the SLIP_REPORT, and a STATUS_REPORT when the
count of completions reaches STATUS_INTERVAL, which clears SKIPPED and INPUT_CLAMPED. Forced by the state or
by a torque-off, it publishes zeros, last signs NONE and no hold (R28, R29, R99, R119, R128, R141 to R145,
R147, R163). The end of RAMPDOWN leaves a hold that stands (log 26). -/
def Obligations.CompletionPublishesAndReports : Prop :=
  ∀ (s : State) (x : Pass), s.inReset = false → s.ale.pass = some x →
    let forced := decide (x.copy.allocState = .standby ∨ x.copy.allocState = .forcedOff ∨
      s.act.state = .forcedOff ∨ x.toffTaken = true)
    let due := decide (s.act.active.val .statusInterval ≤ s.statusCount + 1)
    ∃ t, exec .passCompletion s = .next t ∧
      t = { s with ale := t.ale, act := t.act, liu := t.liu, statusCount := t.statusCount, ptm := t.ptm, image := t.image } ∧
      t.ale = { carried := x.copy.carriedOut forced, published := x.copy.publish forced, pass := none } ∧
      t.ale.published.shortfall = t.ale.published.demand - t.ale.published.torque.front - t.ale.published.torque.rear ∧
      t.ale.published.demand = x.copy.demand ∧ t.ale.published.share = x.copy.share ∧
      (forced = true → ∀ a, t.ale.published.torque.get a = 0 ∧ (t.ale.published.flags.get a).hold = false ∧
        (t.ale.carried.axle.get a).lastSign = .none ∧ (t.ale.carried.axle.get a).holdActive = false) ∧
      t.act = { s.act with state :=
        if s.act.state = .rampdown ∧ t.ale.published.torque = { front := 0, rear := 0 } then .standby else s.act.state } ∧
      t.statusCount = (if due = true then 0 else s.statusCount + 1) ∧
      t.ptm = { s.ptm with skipped := s.ptm.skipped && !due } ∧
      t.image = { s.image with inputClamped := s.image.inputClamped && !due } ∧
      (∀ a : Axle, t.liuOf a.link = (s.liuOf a.link).putPeriodic
        { kind := 0x21, tag := 0
          payload := [BitVec.ofInt 8 (t.ale.published.torque.get a), BitVec.ofInt 8 (t.ale.published.torque.get a / 256),
            s.ptm.periodCount.setWidth 8,
            flagByte [t.act.state = .forcedOff, t.act.state = .standby, (t.ale.published.flags.get a).hold,
              (t.ale.published.flags.get a).slipCut, (t.ale.published.flags.get a).bound,
              (t.ale.published.flags.get a).envStale, (s.liuOf a.link).linkEvent]] }) ∧
      (let q := t.ale.published
       let two := fun v : Int => [BitVec.ofInt 8 v, BitVec.ofInt 8 (v / 256)]
       let speed := fun y : SpeedState => match y with
         | .sensor     => 0
         | .substitute => 1
         | .invalid    => 2
       let health := fun y : Health => match y with
         | .good    => 0
         | .suspect => 1
         | .fault   => 2
       let alloc := fun y : AllocState => match y with
         | .standby   => 0
         | .run       => 1
         | .rampdown  => 2
         | .forcedOff => 3
       let axles := x.copy.latched
       let slipReport : Frame :=
         { kind := 0x22, tag := 0
           payload := two q.slip.front ++ two q.slip.rear ++ two q.torque.front ++ two q.torque.rear ++
             [BitVec.ofNat 8 (speed axles.front.state + 4 * health axles.front.health +
                16 * speed axles.rear.state + 64 * health axles.rear.health),
              flagByte [q.noRef, q.refStale, (s.liuOf .sbc).linkEvent], s.ptm.periodCount.setWidth 8] }
       let statusReport : Frame :=
         { kind := 0x23, tag := 0
           payload := [BitVec.ofNat 8 (alloc t.act.state)] ++ two q.torque.front ++ two q.torque.rear ++
             two q.demand ++ two q.shortfall ++ two (q.share : Int) ++
             [BitVec.ofNat 8 (q.mapResult.set.val + 128 * q.mapResult.hit.toNat), BitVec.ofNat 8 q.mapResult.way.val,
              flagByte [s.ptm.skipped, q.demandStale, s.image.inputClamped,
                Param.all.any fun r => (s.act.pendingOf r).isSome, decide (s.map.slot ≠ .empty),
                decide (s.ptm.mode = .synced), (s.liuOf .vsc).linkEvent],
              flagByte [(s.liuOf .vsc).faulted, (s.liuOf .fdi).faulted, (s.liuOf .rdi).faulted, (s.liuOf .sbc).faulted],
              s.ptm.periodCount.setWidth 8] }
       t.liuOf .sbc = (s.liuOf .sbc).putPeriodic slipReport ∧ slipReport.payload.length = 11 ∧
       slipReport.linkEvent = (s.liuOf .sbc).linkEvent ∧
       (due = false → t.liuOf .vsc = s.liuOf .vsc) ∧
       (due = true → t.liuOf .vsc = (s.liuOf .vsc).putPeriodic statusReport) ∧ statusReport.payload.length = 16 ∧
       statusReport.linkEvent = (s.liuOf .vsc).linkEvent)

/-- The conditioned demand is 0 outside RUN, the record's while it is fresh, and moves toward 0 by at most
DEMAND_DECAY while it is stale; the lookup key names the set of mode and trailer and the bands of mass, grade
and speed, the speed of the reference or, where that cannot be used, the larger of the axles' latched
magnitudes, an INVALID axle left out; the applied share moves toward the target by at most SHARE_SLEW, in
every state, and stays within 0 to 1000 (R8, R9, R11). -/
def Obligations.DemandAndShareConditioned : Prop :=
  ∀ p : PassCopy,
    let d : Int := p.carried.demand
    let decay : Int := p.config.val .demandDecay
    (let k := passKey p.image p.latched
     let fields := p.image.demand.fields
     let r := p.image.reference
     let axle := fun a => if (p.latched.get a).state = .invalid then 0 else (p.latched.get a).speed.natAbs
     let speed := if r.fresh = true ∧ r.fields.valid = true then r.fields.magnitude else max (axle .front) (axle .rear)
     k.set.val = 2 * fields.mode.val + (if fields.trailer = true then 1 else 0) ∧
     (150 * k.load.val ≤ fields.mass ∧ (fields.mass < 150 * (k.load.val + 1) ∨ k.load.val = 7)) ∧
     (-400 ≤ fields.grade → fields.grade ≤ 400 →
       100 * (k.grade.val : Int) ≤ fields.grade + 400 ∧
         (fields.grade + 400 < 100 * ((k.grade.val : Int) + 1) ∨ k.grade.val = 7)) ∧
     (800 * k.speed.val ≤ speed ∧ (speed < 800 * (k.speed.val + 1) ∨ k.speed.val = 7))) ∧
    (p.allocState ≠ .run → p.demand = 0) ∧
    (p.allocState = .run → p.image.demand.fresh = true → p.demand = p.image.demand.fields.demand) ∧
    (p.allocState = .run → p.image.demand.fresh = false →
      (|d| ≤ decay → p.demand = 0) ∧ (decay < d → p.demand = d - decay) ∧ (d < -decay → p.demand = d + decay)) ∧
    (let slew : Int := p.config.val .shareSlew
     let old : Int := p.carried.share
     let target : Int := p.policy.share
     (|target - old| ≤ slew → (p.share : Int) = target) ∧
     (old + slew < target → (p.share : Int) = old + slew) ∧ (target < old - slew → (p.share : Int) = old - slew) ∧
     (p.policy.share ≤ 1000 → p.carried.share ≤ 1000 → p.share ≤ 1000))

/-- Stage 5, whole: T_f0 is D_t × S_a divided by 1000, truncated toward zero, T_r0 the rest; the product is
at most 16,000,000 in magnitude; the two add up to D_t; |T_f0| is no greater than |D_t|, and both have its
sign or are zero; the odd unit goes to the rear; and −7001 at 333 ‰ splits into −2331 and −4670. -/
def Obligations.BaseSplitExact : Prop :=
  (∀ p : PassCopy, |p.demand| ≤ 16000 → p.share ≤ 1000 →
    p.base.front = (p.demand * p.share).tdiv 1000 ∧ p.base.rear = p.demand - p.base.front ∧
    |p.demand * p.share| ≤ 16000000 ∧ p.base.front + p.base.rear = p.demand ∧ |p.base.front| ≤ |p.demand| ∧
    (0 ≤ p.demand → 0 ≤ p.base.front ∧ 0 ≤ p.base.rear) ∧ (p.demand ≤ 0 → p.base.front ≤ 0 ∧ p.base.rear ≤ 0) ∧
    |p.base.front| * 1000 ≤ |p.demand| * p.share ∧ |p.demand| * (1000 - p.share) ≤ |p.base.rear| * 1000) ∧
  ∀ p : PassCopy, p.demand = -7001 → p.share = 333 →
    p.demand * p.share = -2331333 ∧ p.base = { front := -2331, rear := -4670 }

/-- Stages 6 to 8. The slip ratio is (ω_a − ω_ref) × σ × 1000 over the larger of |ω_ref| and SPEED_FLOOR,
truncated toward zero, within ±1000, and 0 for an axle marked NO_SLIP; an axle is slipping exactly when it
overspins or overbrakes; the cut is the smaller of |T_a0| and the gain times the excess slip; the other axle
receives at most the cap, nothing under NO_TRANSFER or when both slip. Each bound is the smallest of the
envelope's term, 0 when stale or not ready, and every ceiling on the axle; each T_a1 is clipped, its excess
spilled onto an axle that is not slip-cut and carries no NO_TRANSFER, and clipped again. The results share the
sign of D_t, add up to no more than |D_t|, and lie within their bounds (R13 to R20, R26, R69, R71). -/
def Obligations.CutTransferAndSpillAddNothing : Prop :=
  ∀ p : PassCopy,
    (∀ a,
      let r := p.image.reference
      let sigma : Int := match r.fields.direction with
        | .forward => 1
        | .reverse => -1
      let ref : Int := sigma * r.fields.magnitude
      let torque := p.base.get a
      let within := fun (b : Axle) (t : Int) => max (-(p.regenBound b : Int)) (min (p.driveBound b : Int) t)
      let e := p.image.envelope.get a
      (p.noSlip a = true ↔ ¬ (r.fresh = true ∧ r.fields.valid = true) ∨ (p.latched.get a).state = .invalid) ∧
      (p.noSlip a = false → p.slip a = max (-1000) (min 1000
        ((((p.latched.get a).speed - ref) * sigma * 1000).tdiv (max |ref| (p.config.val .speedFloor))))) ∧
      (p.slipping a = true ↔ p.noSlip a = false ∧
        (0 < sigma * torque ∧ (p.policy.slipTarget : Int) < p.slip a ∨
          sigma * torque < 0 ∧ p.slip a < -(p.policy.slipTarget : Int))) ∧
      (carriesNoTransfer p.limits a = true ↔ ∃ q ∈ p.limits, q.kind = .noTransfer ∧ q.axle.covers a = true) ∧
      (∀ x : LimitAxle, x.covers a = true ↔ x = .both ∨ x = .front ∧ a = .front ∨ x = .rear ∧ a = .rear) ∧
      (p.slipping a.other = true → p.slipping a = false → carriesNoTransfer p.limits a = false →
        p.received a = (p.base.get a.other).sign * min (p.cut a.other) p.policy.transferCap) ∧
      p.afterSlip a = torque - torque.sign * p.cut a + p.received a ∧
      (e.fresh = false ∨ e.fields.ready = false → p.driveBound a = 0 ∧ p.regenBound a = 0) ∧
      (p.driveBound a ≤ e.fields.drive ∧ p.regenBound a ≤ e.fields.regen) ∧
      (∀ q ∈ p.limits, q.axle.covers a = true →
        (q.kind = .driveCeil → p.driveBound a ≤ q.value) ∧ (q.kind = .regenCeil → p.regenBound a ≤ q.value)) ∧
      (e.fresh = true → e.fields.ready = true →
        (p.driveBound a = e.fields.drive ∨
          ∃ q ∈ p.limits, q.axle.covers a = true ∧ q.kind = .driveCeil ∧ p.driveBound a = q.value) ∧
        (p.regenBound a = e.fields.regen ∨
          ∃ q ∈ p.limits, q.axle.covers a = true ∧ q.kind = .regenCeil ∧ p.regenBound a = q.value)) ∧
      p.target a = within a (within a (p.afterSlip a) +
        if p.slipping a = false ∧ carriesNoTransfer p.limits a = false
        then p.afterSlip a.other - within a.other (p.afterSlip a.other) else 0)) ∧
    (|p.demand| ≤ 16000 → p.share ≤ 1000 →
    (∀ a, (p.slipping a = false → p.cut a = 0) ∧
      (p.slipping a = true → (p.policy.slipTarget : Int) < |p.slip a| ∧ p.base.get a ≠ 0 ∧
        p.cut a = min |p.base.get a| (p.policy.gain * (|p.slip a| - p.policy.slipTarget))) ∧
      (p.noSlip a = true → p.slip a = 0 ∧ p.slipping a = false) ∧ |p.slip a| ≤ 1000 ∧
      |p.received a| ≤ p.cut a.other ∧ |p.received a| ≤ p.policy.transferCap ∧
      (carriesNoTransfer p.limits a = true ∨ p.slipping a = true → p.received a = 0) ∧
      -(p.regenBound a : Int) ≤ p.target a ∧ p.target a ≤ p.driveBound a ∧
      (0 ≤ p.demand → 0 ≤ p.afterSlip a ∧ 0 ≤ p.target a) ∧ (p.demand ≤ 0 → p.afterSlip a ≤ 0 ∧ p.target a ≤ 0)) ∧
    |p.afterSlip .front| + |p.afterSlip .rear| ≤ |p.demand| ∧
    |p.target .front| + |p.target .rear| ≤ |p.afterSlip .front| + |p.afterSlip .rear|)

/-- What a pass publishes: the commands, slip ratios, figures and map result of its stages, and each flag
exactly when its rule sets it (R8, R10, R13, R15, R18, R20, R25, R26, R29). The rate bound is the smallest of
RATE_LIMIT and every RATE_CEIL on the axle (R21, R70); T_a4 is clipped to the bounds after its case (R26); unless
stage 11 acts the commands and the carried last signs and holds are those the interlock leaves (R29), and when
it acts they are 0, NONE and none (R28). For any previous commands in
range, each command lies within its bounds, grown in magnitude by no more than its rate bound, not across
zero in one pass; above 16000 together the axle that grew gives way; and they are never opposed (R21, R23,
R26, R27, R29). -/
def Obligations.CommandsBoundedRatedAndAligned : Prop :=
  ∀ (p : PassCopy) (forced : Bool),
    (let q := p.publish forced
     (∀ a,
       let outside := fun t : Int => t < -(p.regenBound a : Int) ∨ (p.driveBound a : Int) < t
       let g := q.flags.get a
       q.torque.get a = p.command forced a ∧ q.slip.get a = p.slip a ∧
       g.slipCut = p.slipping a ∧ (g.envStale = true ↔ (p.image.envelope.get a).fresh = false) ∧
       (g.bound = true ↔ outside (p.afterSlip a) ∨ outside (p.spilled a) ∨ outside (p.stepped a).1 ∨
         p.limited a ≠ p.clipped9 a) ∧
       (g.hold = true ↔ forced = false ∧ ((p.carry forced a).holdActive = true ∨ p.interlocked = some a))) ∧
     q.demand = p.demand ∧ q.share = p.share ∧
     q.shortfall = p.demand - p.command forced .front - p.command forced .rear ∧
     (q.noRef = true ↔ ¬ (p.image.reference.fresh = true ∧ p.image.reference.fields.valid = true)) ∧
     (q.refStale = true ↔ p.image.reference.fresh = false) ∧ (q.demandStale = true ↔ p.image.demand.fresh = false) ∧
     (q.mapMiss = true ↔ p.mapResult.hit = false) ∧ q.mapResult = p.mapResult) ∧
    (∀ a,
      p.rate a ≤ p.config.val .rateLimit ∧
      (∀ r ∈ p.limits, r.axle.covers a = true → r.kind = .rateCeil → p.rate a ≤ r.value) ∧
      (p.rate a = p.config.val .rateLimit ∨
        ∃ r ∈ p.limits, r.axle.covers a = true ∧ r.kind = .rateCeil ∧ p.rate a = r.value) ∧
      p.clipped9 a = max (-(p.regenBound a : Int)) (min (p.driveBound a : Int) (p.stepped a).1) ∧
      (forced = false → p.command forced a = p.locked a ∧ p.carry forced a = p.lockedCarry a) ∧
      (forced = true → p.command forced a = 0 ∧
        p.carry forced a = { p.lockedCarry a with lastSign := .none, holdActive := false })) ∧
    (CommandsOk p.prev → ∀ a,
      (|p.clipped9 .front| + |p.clipped9 .rear| ≤ 16000 → p.limited a = p.clipped9 a) ∧
      (16000 < |p.clipped9 .front| + |p.clipped9 .rear| → |p.prev.get a| < |p.clipped9 a| →
        |p.clipped9 a.other| ≤ |p.prev.get a.other| →
        p.limited a = (p.clipped9 a).sign * (16000 - |p.clipped9 a.other|) ∧ p.limited a.other = p.clipped9 a.other ∧
        |p.prev.get a| ≤ |p.limited a|)) ∧
    (CommandsOk p.prev → p.image.envelope.All (fun e => e.fields.drive ≤ 16000 ∧ e.fields.regen ≤ 16000) →
    (∀ a, -(p.regenBound a : Int) ≤ p.command forced a ∧ p.command forced a ≤ p.driveBound a ∧
      |p.command forced a| ≤ |p.prev.get a| + p.rate a ∧ p.rate a ≤ p.config.val .rateLimit ∧
      (∀ r ∈ p.limits, r.kind = .rateCeil → r.axle.covers a = true → p.rate a ≤ r.value) ∧
      ¬ (0 < p.prev.get a ∧ p.command forced a < 0) ∧ ¬ (p.prev.get a < 0 ∧ 0 < p.command forced a)) ∧
    |p.command forced .front| + |p.command forced .rear| ≤ 16000 ∧
    ¬ (0 < p.command forced .front ∧ p.command forced .rear < 0) ∧
    ¬ (p.command forced .front < 0 ∧ 0 < p.command forced .rear))

/-- In no step does an axle's published command pass from a positive to a negative value or back: at least
one published zero stands between them; and a step that is no pass completion never raises a magnitude. -/
def Obligations.NoStepReversesACommand : Prop :=
  ∀ s t : State, s.ale.Ok → step s = .next t → ∀ a,
    ¬ (0 < s.ale.published.torque.get a ∧ t.ale.published.torque.get a < 0) ∧
    ¬ (s.ale.published.torque.get a < 0 ∧ 0 < t.ale.published.torque.get a) ∧
    (s.pending.head? ≠ some .passCompletion → |t.ale.published.torque.get a| ≤ |s.ale.published.torque.get a|)

/-- A reversal from rest waits REVERSAL_HOLD passes: while every pass asks for the other sign the axle puts
out exactly that many zeros, keeping its last sign, and leaves zero in the new sign in the next pass,
whatever the rate bounds; a cancelled hold starts again in full. An axle running down (case A) steps toward
zero, stops there and keeps its last sign and hold; one that continues, starts or rests (case C) steps toward
its target and cancels a hold. Of two opposed commands the interlock zeroes one, the one that turned, or, where
neither did, the one at rest before, gives it back its last sign and hold, and shows HOLD. The pass takes each
axle through its case with T_prev, T_a3, its rate bound, REVERSAL_HOLD and the carried state of the axle (R22 to
R25, R27). -/
def Obligations.ReversalWaitsTheHold : Prop :=
  (∀ (prev target rate : Int) (hold : Nat) (c : AxleCarry), 0 ≤ rate →
    let x := stage9 prev target rate hold c
    let caseA := 0 < prev ∧ target ≤ 0 ∨ prev < 0 ∧ 0 ≤ target
    let caseB := prev = 0 ∧ target ≠ 0 ∧ c.lastSign ≠ .none ∧
      c.lastSign ≠ (if 0 < target then .positive else .negative)
    (caseA → x.2 = c ∧ (|prev| ≤ rate → x.1 = 0) ∧ (rate < prev → x.1 = prev - rate) ∧
      (prev < -rate → x.1 = prev + rate)) ∧
    (¬ caseA → ¬ caseB →
      (|target - prev| ≤ rate → x.1 = target) ∧ (prev + rate < target → x.1 = prev + rate) ∧
      (target < prev - rate → x.1 = prev - rate) ∧
      x.2 = { c with holdActive := false
                     lastSign := if x.1 = 0 then c.lastSign else if 0 < x.1 then .positive else .negative })) ∧
  (∀ (p : PassCopy) (a : Axle), p.stepped a =
    stage9 (p.prev.get a) (p.target a) (p.rate a) (p.config.val .reversalHold) (p.carried.axle.get a)) ∧
  (∀ p : PassCopy,
    let opposite := 0 < p.limited .front ∧ p.limited .rear < 0 ∨ p.limited .front < 0 ∧ 0 < p.limited .rear
    let turned := fun a => (p.carried.axle.get a).lastSign ≠ (if 0 < p.limited a then .positive else .negative)
    (¬ opposite → p.interlocked = none ∧ ∀ a, p.locked a = p.limited a ∧ p.lockedCarry a = (p.stepped a).2) ∧
    (opposite → ∃ a, p.interlocked = some a ∧ p.locked a = 0 ∧ p.lockedCarry a = p.carried.axle.get a ∧
      (p.flags false a).hold = true ∧
      p.locked a.other = p.limited a.other ∧ p.lockedCarry a.other = (p.stepped a.other).2 ∧
      (∀ b, turned b → ¬ turned b.other → a = b) ∧
      ∀ b, ¬ turned b → ¬ turned b.other → p.prev.get b = 0 → p.prev.get b.other ≠ 0 → a = b)) ∧
  ∀ (hold : Nat) (c : AxleCarry) (asked : List (Int × Int)) (target rate : Int),
    c.holdActive = false → c.lastSign ≠ .none → asked.length = hold →
    (∀ x ∈ asked, x.1 ≠ 0 ∧ signOf x.1 ≠ c.lastSign ∧ 0 < x.2) → target ≠ 0 → signOf target ≠ c.lastSign → 0 < rate →
    let x := stage9Run hold 0 c asked
    x.1 = List.replicate hold 0 ∧ x.2.lastSign = c.lastSign ∧ (0 < hold → x.2.holdActive = true ∧ x.2.holdCounter = 0) ∧
    (let y := stage9 0 target rate hold x.2
     |y.1| = min rate |target| ∧ signOf y.1 = signOf target ∧ y.2.lastSign = signOf target ∧ y.2.holdActive = false) ∧
    (stage9 0 0 rate hold x.2).2 = { x.2 with holdActive := false } ∧ (stage9 0 0 rate hold x.2).1 = 0

/-- A falling of TOFF_N while a pass is in flight and that pass's completion, in either order, end with zero
commands, both last signs NONE and no hold, in FORCED_OFF, and the last AXLE_COMMAND handed to each
inverter carries torque 0 and OFF (R7, R146). -/
def Obligations.TorqueOffAndCompletionEndInZero : Prop :=
  ∀ (s : State) (x : Pass), s.inReset = false → s.ale.pass = some x → s.act.pinLevel = false → s.act.filtered = true →
    200 ≤ s.act.held → ∀ order ∈ [(Instr.toffNFalling, Instr.passCompletion), (.passCompletion, .toffNFalling)],
    ∃ m t, exec order.1 s = .next m ∧ exec order.2 m = .next t ∧ t.act.state = .forcedOff ∧ t.ale.pass = none ∧
      ∀ a : Axle, t.ale.published.torque.get a = 0 ∧ (t.ale.published.flags.get a).hold = false ∧
        (t.ale.carried.axle.get a).lastSign = .none ∧ (t.ale.carried.axle.get a).holdActive = false ∧
        ∃ g : Frame, t.liuOf a.link = (m.liuOf a.link).putPeriodic g ∧ g.kind = 0x21 ∧
          g.payload.take 2 = [0, 0] ∧ (g.payload.getD 3 0).getLsbD 0 = true

/-! ### What every step keeps -/

/-- The state a reset leaves is sound in every block. -/
def Obligations.ResetStateIsSound : Prop := State.reset.Ok

/-- Every step keeps every set of the Split Map sound: its LRU order a permutation of its four ways, no two
valid entries with identical keys, every value in range (R32, R33, R34). -/
def Obligations.StepKeepsSplitMap : Prop :=
  ∀ s t : State, s.map.Ok → step s = .next t → t.map.Ok

/-- Every step keeps the Limit Table sound: at most 16 records and 4 of each owner, no two with the same owner
and tag, every field in range, and a record of a finite lifetime with passes left (R55, R56). -/
def Obligations.StepKeepsLimitTable : Prop :=
  ∀ s t : State, LimitsOk s.limits → step s = .next t → LimitsOk t.limits

/-- Every step keeps every link sound: at most two frames received, at most three to send, two RESPONSE
frames and one of the link's periodic kind among them, and FAULTED at a count of 8 (R170, R171, R173). -/
def Obligations.StepKeepsLinks : Prop :=
  ∀ s t : State, s.LinksOk → step s = .next t → t.LinksOk

/-- While the allocator is in STANDBY or FORCED_OFF both commands are zero, and no step leads from there to a
nonzero command: one needs RUN, which ALLOC_ENABLE alone enters (R125, R126, R131). -/
def Obligations.OffMeansZeroCommands : Prop :=
  ∀ s t : State, s.OffOk → step s = .next t → t.OffOk ∧
    (s.act.state.off = true → t.ale.published.torque = { front := 0, rear := 0 }) ∧
    (s.act.state ≠ .run → t.act.state = .run → s.pending.head? = some .allocEnable ∧ s.act.filtered = true)

/-- Every step keeps every block sound. -/
def Obligations.StepKeepsEveryBlock : Prop :=
  ∀ s t : State, s.Ok → step s = .next t → t.Ok
end

