-- ==== Sys2Proof/Laws/Select.lean ====
section
/-! SUPPORT. The selections of Ops: what a selection reads after one was written, for axles, links,
configuration values and tables. -/

namespace Sys2Proof.Machine

variable {α β γ : Type}

@[simp] theorem PerAxle.get_front (p : PerAxle α) : p.get .front = p.front := rfl
@[simp] theorem PerAxle.get_rear (p : PerAxle α) : p.get .rear = p.rear := rfl
@[simp] theorem PerAxle.of_front (f : Axle → α) : (PerAxle.of f).front = f .front := rfl
@[simp] theorem PerAxle.of_rear (f : Axle → α) : (PerAxle.of f).rear = f .rear := rfl
@[simp] theorem PerAxle.get_of (f : Axle → α) (a : Axle) : (PerAxle.of f).get a = f a := by cases a <;> rfl
@[simp] theorem PerAxle.get_set_same (p : PerAxle α) (a : Axle) (x : α) : (p.set a x).get a = x := by
  cases a <;> rfl
theorem PerAxle.get_set_ne (p : PerAxle α) {a b : Axle} (x : α) (h : a ≠ b) : (p.set a x).get b = p.get b := by
  cases a <;> cases b <;> first | rfl | exact absurd rfl h
@[simp] theorem PerAxle.set_get (p : PerAxle α) (a : Axle) : p.set a (p.get a) = p := by cases a <;> rfl
@[simp] theorem PerAxle.of_get (p : PerAxle α) : PerAxle.of p.get = p := rfl
theorem PerAxle.ext_get {p q : PerAxle α} (h : ∀ a, p.get a = q.get a) : p = q := by
  cases p; cases q
  have hf := h .front
  have hr := h .rear
  simp only [PerAxle.get] at hf hr
  rw [hf, hr]

@[simp] theorem PerLink.get_of (f : Link → α) (l : Link) : (PerLink.of f).get l = f l := by cases l <;> rfl
@[simp] theorem PerLink.get_set_same (p : PerLink α) (l : Link) (x : α) : (p.set l x).get l = x := by
  cases l <;> rfl
theorem PerLink.get_set_ne (p : PerLink α) {l m : Link} (x : α) (h : l ≠ m) : (p.set l x).get m = p.get m := by
  cases l <;> cases m <;> first | rfl | exact absurd rfl h
@[simp] theorem PerLink.set_get (p : PerLink α) (l : Link) : p.set l (p.get l) = p := by cases l <;> rfl
@[simp] theorem PerLink.set_set (p : PerLink α) (l : Link) (x y : α) : (p.set l x).set l y = p.set l y := by
  cases l <;> rfl
theorem PerLink.ext_get {p q : PerLink α} (h : ∀ l, p.get l = q.get l) : p = q := by
  cases p; cases q
  have h0 := h .vsc
  have h1 := h .fdi
  have h2 := h .rdi
  have h3 := h .sbc
  simp only [PerLink.get] at h0 h1 h2 h3
  rw [h0, h1, h2, h3]

@[simp] theorem get_mapCells {n : Nat} (f : α → β) (v : Vector α n) (i : Fin n) :
    (mapCells f v).get i = f (v.get i) := by
  simp only [mapCells, Vector.get, Array.getElem_toList, List.getElem_toArray, List.getElem_map]
  rfl

@[simp] theorem get_zipCells {n : Nat} (f : α → β → γ) (v : Vector α n) (w : Vector β n) (i : Fin n) :
    (zipCells f v w).get i = f (v.get i) (w.get i) := by
  simp only [zipCells, Vector.get, Array.getElem_toList, List.getElem_toArray, List.getElem_zipWith]
  rfl

theorem get_set_vec {n : Nat} (v : Vector α n) (i j : Fin n) (x : α) :
    (v.set i.val x i.isLt).get j = if i = j then x else v.get j := by
  have e : (v.set i.val x i.isLt).get j = (v.set i.val x i.isLt)[j.val] := rfl
  rw [e, Vector.getElem_set]
  simp only [Fin.ext_iff]
  rfl

theorem Param.index_injective {p q : Param} (h : p.index = q.index) : p = q := by
  revert h; cases p <;> cases q <;> decide

@[simp] theorem ConfigSet.val_put_same (c : ConfigSet) (p : Param) (v : Nat) : (c.put p v).val p = v := by
  simp [ConfigSet.val, ConfigSet.put, get_set_vec]

theorem ConfigSet.val_put_ne (c : ConfigSet) {p q : Param} (v : Nat) (h : p ≠ q) :
    (c.put p v).val q = c.val q := by
  have : p.index ≠ q.index := fun e => h (Param.index_injective e)
  simp [ConfigSet.val, ConfigSet.put, get_set_vec, this]

@[simp] theorem Act.pendingOf_putPending_same (x : Act) (p : Param) (v : Option Nat) :
    (x.putPending p v).pendingOf p = v := by
  simp [Act.pendingOf, Act.putPending, get_set_vec]

theorem Act.pendingOf_putPending_ne (x : Act) {p q : Param} (v : Option Nat) (h : p ≠ q) :
    (x.putPending p v).pendingOf q = x.pendingOf q := by
  have : p.index ≠ q.index := fun e => h (Param.index_injective e)
  simp [Act.pendingOf, Act.putPending, get_set_vec, this]

/-- The parameter of an index is the one whose index it is (R134). -/
theorem Param.ofIndex_index (p : Param) : Param.ofIndex p.index.val = some p := by cases p <;> rfl

/-- An index above 22 names no parameter (R136). -/
theorem Param.ofIndex_none {n : Nat} (h : 22 < n) : Param.ofIndex n = none := by
  simp only [Param.ofIndex, List.getElem?_eq_none_iff]
  simp [Param.all]; omega

/-- A parameter found by an index has that index (R134). -/
theorem Param.index_of_ofIndex {n : Nat} {p : Param} (h : Param.ofIndex n = some p) : p.index.val = n := by
  by_cases hn : n ≤ 22
  · revert h; interval_cases n <;> cases p <;> decide
  · rw [Param.ofIndex_none (by omega)] at h; cases h

end Sys2Proof.Machine
end

