-- ==== Sys2Proof/Laws/State.lean ====
section
/-! SUPPORT. The frames of the operations on State: for each operation, one lemma for each field it leaves
as it was. -/

namespace Sys2Proof.Machine

@[simp] theorem State.modLiu_pins (s : State) (l : Link) (g : Liu → Liu) : (s.modLiu l g).pins = s.pins := rfl
@[simp] theorem State.modLiu_inReset (s : State) (l : Link) (g : Liu → Liu) : (s.modLiu l g).inReset = s.inReset := rfl
@[simp] theorem State.modLiu_timeBase (s : State) (l : Link) (g : Liu → Liu) : (s.modLiu l g).timeBase = s.timeBase := rfl
@[simp] theorem State.modLiu_subClock (s : State) (l : Link) (g : Liu → Liu) : (s.modLiu l g).subClock = s.subClock := rfl
@[simp] theorem State.modLiu_ptm (s : State) (l : Link) (g : Liu → Liu) : (s.modLiu l g).ptm = s.ptm := rfl
@[simp] theorem State.modLiu_asu (s : State) (l : Link) (g : Liu → Liu) : (s.modLiu l g).asu = s.asu := rfl
@[simp] theorem State.modLiu_image (s : State) (l : Link) (g : Liu → Liu) : (s.modLiu l g).image = s.image := rfl
@[simp] theorem State.modLiu_map (s : State) (l : Link) (g : Liu → Liu) : (s.modLiu l g).map = s.map := rfl
@[simp] theorem State.modLiu_limits (s : State) (l : Link) (g : Liu → Liu) : (s.modLiu l g).limits = s.limits := rfl
@[simp] theorem State.modLiu_ale (s : State) (l : Link) (g : Liu → Liu) : (s.modLiu l g).ale = s.ale := rfl
@[simp] theorem State.modLiu_act (s : State) (l : Link) (g : Liu → Liu) : (s.modLiu l g).act = s.act := rfl
@[simp] theorem State.modLiu_statusCount (s : State) (l : Link) (g : Liu → Liu) : (s.modLiu l g).statusCount = s.statusCount := rfl
@[simp] theorem State.modLiu_pointer (s : State) (l : Link) (g : Liu → Liu) : (s.modLiu l g).pointer = s.pointer := rfl
@[simp] theorem State.modLiu_freeIndex (s : State) (l : Link) (g : Liu → Liu) : (s.modLiu l g).freeIndex = s.freeIndex := rfl
@[simp] theorem State.modLiu_pending (s : State) (l : Link) (g : Liu → Liu) : (s.modLiu l g).pending = s.pending := rfl

@[simp] theorem State.modAsu_pins (s : State) (a : Axle) (g : Asu → Asu) : (s.modAsu a g).pins = s.pins := rfl
@[simp] theorem State.modAsu_inReset (s : State) (a : Axle) (g : Asu → Asu) : (s.modAsu a g).inReset = s.inReset := rfl
@[simp] theorem State.modAsu_timeBase (s : State) (a : Axle) (g : Asu → Asu) : (s.modAsu a g).timeBase = s.timeBase := rfl
@[simp] theorem State.modAsu_subClock (s : State) (a : Axle) (g : Asu → Asu) : (s.modAsu a g).subClock = s.subClock := rfl
@[simp] theorem State.modAsu_ptm (s : State) (a : Axle) (g : Asu → Asu) : (s.modAsu a g).ptm = s.ptm := rfl
@[simp] theorem State.modAsu_image (s : State) (a : Axle) (g : Asu → Asu) : (s.modAsu a g).image = s.image := rfl
@[simp] theorem State.modAsu_map (s : State) (a : Axle) (g : Asu → Asu) : (s.modAsu a g).map = s.map := rfl
@[simp] theorem State.modAsu_limits (s : State) (a : Axle) (g : Asu → Asu) : (s.modAsu a g).limits = s.limits := rfl
@[simp] theorem State.modAsu_ale (s : State) (a : Axle) (g : Asu → Asu) : (s.modAsu a g).ale = s.ale := rfl
@[simp] theorem State.modAsu_act (s : State) (a : Axle) (g : Asu → Asu) : (s.modAsu a g).act = s.act := rfl
@[simp] theorem State.modAsu_statusCount (s : State) (a : Axle) (g : Asu → Asu) : (s.modAsu a g).statusCount = s.statusCount := rfl
@[simp] theorem State.modAsu_pointer (s : State) (a : Axle) (g : Asu → Asu) : (s.modAsu a g).pointer = s.pointer := rfl
@[simp] theorem State.modAsu_liu (s : State) (a : Axle) (g : Asu → Asu) : (s.modAsu a g).liu = s.liu := rfl
@[simp] theorem State.modAsu_freeIndex (s : State) (a : Axle) (g : Asu → Asu) : (s.modAsu a g).freeIndex = s.freeIndex := rfl
@[simp] theorem State.modAsu_pending (s : State) (a : Axle) (g : Asu → Asu) : (s.modAsu a g).pending = s.pending := rfl

@[simp] theorem State.modSensorPins_inReset (s : State) (a : Axle) (g : SensorPins → SensorPins) : (s.modSensorPins a g).inReset = s.inReset := rfl
@[simp] theorem State.modSensorPins_timeBase (s : State) (a : Axle) (g : SensorPins → SensorPins) : (s.modSensorPins a g).timeBase = s.timeBase := rfl
@[simp] theorem State.modSensorPins_subClock (s : State) (a : Axle) (g : SensorPins → SensorPins) : (s.modSensorPins a g).subClock = s.subClock := rfl
@[simp] theorem State.modSensorPins_ptm (s : State) (a : Axle) (g : SensorPins → SensorPins) : (s.modSensorPins a g).ptm = s.ptm := rfl
@[simp] theorem State.modSensorPins_asu (s : State) (a : Axle) (g : SensorPins → SensorPins) : (s.modSensorPins a g).asu = s.asu := rfl
@[simp] theorem State.modSensorPins_image (s : State) (a : Axle) (g : SensorPins → SensorPins) : (s.modSensorPins a g).image = s.image := rfl
@[simp] theorem State.modSensorPins_map (s : State) (a : Axle) (g : SensorPins → SensorPins) : (s.modSensorPins a g).map = s.map := rfl
@[simp] theorem State.modSensorPins_limits (s : State) (a : Axle) (g : SensorPins → SensorPins) : (s.modSensorPins a g).limits = s.limits := rfl
@[simp] theorem State.modSensorPins_ale (s : State) (a : Axle) (g : SensorPins → SensorPins) : (s.modSensorPins a g).ale = s.ale := rfl
@[simp] theorem State.modSensorPins_act (s : State) (a : Axle) (g : SensorPins → SensorPins) : (s.modSensorPins a g).act = s.act := rfl
@[simp] theorem State.modSensorPins_statusCount (s : State) (a : Axle) (g : SensorPins → SensorPins) : (s.modSensorPins a g).statusCount = s.statusCount := rfl
@[simp] theorem State.modSensorPins_pointer (s : State) (a : Axle) (g : SensorPins → SensorPins) : (s.modSensorPins a g).pointer = s.pointer := rfl
@[simp] theorem State.modSensorPins_liu (s : State) (a : Axle) (g : SensorPins → SensorPins) : (s.modSensorPins a g).liu = s.liu := rfl
@[simp] theorem State.modSensorPins_freeIndex (s : State) (a : Axle) (g : SensorPins → SensorPins) : (s.modSensorPins a g).freeIndex = s.freeIndex := rfl
@[simp] theorem State.modSensorPins_pending (s : State) (a : Axle) (g : SensorPins → SensorPins) : (s.modSensorPins a g).pending = s.pending := rfl

@[simp] theorem State.dequeue_pins (s : State) (l : Link) : (s.dequeue l).pins = s.pins := rfl
@[simp] theorem State.dequeue_inReset (s : State) (l : Link) : (s.dequeue l).inReset = s.inReset := rfl
@[simp] theorem State.dequeue_timeBase (s : State) (l : Link) : (s.dequeue l).timeBase = s.timeBase := rfl
@[simp] theorem State.dequeue_subClock (s : State) (l : Link) : (s.dequeue l).subClock = s.subClock := rfl
@[simp] theorem State.dequeue_ptm (s : State) (l : Link) : (s.dequeue l).ptm = s.ptm := rfl
@[simp] theorem State.dequeue_asu (s : State) (l : Link) : (s.dequeue l).asu = s.asu := rfl
@[simp] theorem State.dequeue_image (s : State) (l : Link) : (s.dequeue l).image = s.image := rfl
@[simp] theorem State.dequeue_map (s : State) (l : Link) : (s.dequeue l).map = s.map := rfl
@[simp] theorem State.dequeue_limits (s : State) (l : Link) : (s.dequeue l).limits = s.limits := rfl
@[simp] theorem State.dequeue_ale (s : State) (l : Link) : (s.dequeue l).ale = s.ale := rfl
@[simp] theorem State.dequeue_act (s : State) (l : Link) : (s.dequeue l).act = s.act := rfl
@[simp] theorem State.dequeue_statusCount (s : State) (l : Link) : (s.dequeue l).statusCount = s.statusCount := rfl
@[simp] theorem State.dequeue_freeIndex (s : State) (l : Link) : (s.dequeue l).freeIndex = s.freeIndex := rfl
@[simp] theorem State.dequeue_pending (s : State) (l : Link) : (s.dequeue l).pending = s.pending := rfl

@[simp] theorem State.answer_pins (s : State) (l : Link) (f : Frame) (o : Option Answer) : (s.answer l f o).pins = s.pins := by cases o <;> rfl
@[simp] theorem State.answer_inReset (s : State) (l : Link) (f : Frame) (o : Option Answer) : (s.answer l f o).inReset = s.inReset := by cases o <;> rfl
@[simp] theorem State.answer_timeBase (s : State) (l : Link) (f : Frame) (o : Option Answer) : (s.answer l f o).timeBase = s.timeBase := by cases o <;> rfl
@[simp] theorem State.answer_subClock (s : State) (l : Link) (f : Frame) (o : Option Answer) : (s.answer l f o).subClock = s.subClock := by cases o <;> rfl
@[simp] theorem State.answer_ptm (s : State) (l : Link) (f : Frame) (o : Option Answer) : (s.answer l f o).ptm = s.ptm := by cases o <;> rfl
@[simp] theorem State.answer_asu (s : State) (l : Link) (f : Frame) (o : Option Answer) : (s.answer l f o).asu = s.asu := by cases o <;> rfl
@[simp] theorem State.answer_image (s : State) (l : Link) (f : Frame) (o : Option Answer) : (s.answer l f o).image = s.image := by cases o <;> rfl
@[simp] theorem State.answer_map (s : State) (l : Link) (f : Frame) (o : Option Answer) : (s.answer l f o).map = s.map := by cases o <;> rfl
@[simp] theorem State.answer_limits (s : State) (l : Link) (f : Frame) (o : Option Answer) : (s.answer l f o).limits = s.limits := by cases o <;> rfl
@[simp] theorem State.answer_ale (s : State) (l : Link) (f : Frame) (o : Option Answer) : (s.answer l f o).ale = s.ale := by cases o <;> rfl
@[simp] theorem State.answer_act (s : State) (l : Link) (f : Frame) (o : Option Answer) : (s.answer l f o).act = s.act := by cases o <;> rfl
@[simp] theorem State.answer_statusCount (s : State) (l : Link) (f : Frame) (o : Option Answer) : (s.answer l f o).statusCount = s.statusCount := by cases o <;> rfl
@[simp] theorem State.answer_pointer (s : State) (l : Link) (f : Frame) (o : Option Answer) : (s.answer l f o).pointer = s.pointer := by cases o <;> rfl
@[simp] theorem State.answer_freeIndex (s : State) (l : Link) (f : Frame) (o : Option Answer) : (s.answer l f o).freeIndex = s.freeIndex := by cases o <;> rfl
@[simp] theorem State.answer_pending (s : State) (l : Link) (f : Frame) (o : Option Answer) : (s.answer l f o).pending = s.pending := by cases o <;> rfl

@[simp] theorem State.queuePeriodic_pins (s : State) (l : Link) (f : Frame) : (s.queuePeriodic l f).pins = s.pins := rfl
@[simp] theorem State.queuePeriodic_inReset (s : State) (l : Link) (f : Frame) : (s.queuePeriodic l f).inReset = s.inReset := rfl
@[simp] theorem State.queuePeriodic_timeBase (s : State) (l : Link) (f : Frame) : (s.queuePeriodic l f).timeBase = s.timeBase := rfl
@[simp] theorem State.queuePeriodic_subClock (s : State) (l : Link) (f : Frame) : (s.queuePeriodic l f).subClock = s.subClock := rfl
@[simp] theorem State.queuePeriodic_ptm (s : State) (l : Link) (f : Frame) : (s.queuePeriodic l f).ptm = s.ptm := rfl
@[simp] theorem State.queuePeriodic_asu (s : State) (l : Link) (f : Frame) : (s.queuePeriodic l f).asu = s.asu := rfl
@[simp] theorem State.queuePeriodic_image (s : State) (l : Link) (f : Frame) : (s.queuePeriodic l f).image = s.image := rfl
@[simp] theorem State.queuePeriodic_map (s : State) (l : Link) (f : Frame) : (s.queuePeriodic l f).map = s.map := rfl
@[simp] theorem State.queuePeriodic_limits (s : State) (l : Link) (f : Frame) : (s.queuePeriodic l f).limits = s.limits := rfl
@[simp] theorem State.queuePeriodic_ale (s : State) (l : Link) (f : Frame) : (s.queuePeriodic l f).ale = s.ale := rfl
@[simp] theorem State.queuePeriodic_act (s : State) (l : Link) (f : Frame) : (s.queuePeriodic l f).act = s.act := rfl
@[simp] theorem State.queuePeriodic_statusCount (s : State) (l : Link) (f : Frame) : (s.queuePeriodic l f).statusCount = s.statusCount := rfl
@[simp] theorem State.queuePeriodic_pointer (s : State) (l : Link) (f : Frame) : (s.queuePeriodic l f).pointer = s.pointer := rfl
@[simp] theorem State.queuePeriodic_freeIndex (s : State) (l : Link) (f : Frame) : (s.queuePeriodic l f).freeIndex = s.freeIndex := rfl
@[simp] theorem State.queuePeriodic_pending (s : State) (l : Link) (f : Frame) : (s.queuePeriodic l f).pending = s.pending := rfl

@[simp] theorem State.sendCommand_pins (s : State) (a : Axle) : (s.sendCommand a).pins = s.pins := rfl
@[simp] theorem State.sendCommand_inReset (s : State) (a : Axle) : (s.sendCommand a).inReset = s.inReset := rfl
@[simp] theorem State.sendCommand_timeBase (s : State) (a : Axle) : (s.sendCommand a).timeBase = s.timeBase := rfl
@[simp] theorem State.sendCommand_subClock (s : State) (a : Axle) : (s.sendCommand a).subClock = s.subClock := rfl
@[simp] theorem State.sendCommand_ptm (s : State) (a : Axle) : (s.sendCommand a).ptm = s.ptm := rfl
@[simp] theorem State.sendCommand_asu (s : State) (a : Axle) : (s.sendCommand a).asu = s.asu := rfl
@[simp] theorem State.sendCommand_image (s : State) (a : Axle) : (s.sendCommand a).image = s.image := rfl
@[simp] theorem State.sendCommand_map (s : State) (a : Axle) : (s.sendCommand a).map = s.map := rfl
@[simp] theorem State.sendCommand_limits (s : State) (a : Axle) : (s.sendCommand a).limits = s.limits := rfl
@[simp] theorem State.sendCommand_ale (s : State) (a : Axle) : (s.sendCommand a).ale = s.ale := rfl
@[simp] theorem State.sendCommand_act (s : State) (a : Axle) : (s.sendCommand a).act = s.act := rfl
@[simp] theorem State.sendCommand_statusCount (s : State) (a : Axle) : (s.sendCommand a).statusCount = s.statusCount := rfl
@[simp] theorem State.sendCommand_pointer (s : State) (a : Axle) : (s.sendCommand a).pointer = s.pointer := rfl
@[simp] theorem State.sendCommand_freeIndex (s : State) (a : Axle) : (s.sendCommand a).freeIndex = s.freeIndex := rfl
@[simp] theorem State.sendCommand_pending (s : State) (a : Axle) : (s.sendCommand a).pending = s.pending := rfl

@[simp] theorem State.reportTorqueOff_pins (s : State) : (s.reportTorqueOff).pins = s.pins := rfl
@[simp] theorem State.reportTorqueOff_inReset (s : State) : (s.reportTorqueOff).inReset = s.inReset := rfl
@[simp] theorem State.reportTorqueOff_timeBase (s : State) : (s.reportTorqueOff).timeBase = s.timeBase := rfl
@[simp] theorem State.reportTorqueOff_subClock (s : State) : (s.reportTorqueOff).subClock = s.subClock := rfl
@[simp] theorem State.reportTorqueOff_ptm (s : State) : (s.reportTorqueOff).ptm = s.ptm := rfl
@[simp] theorem State.reportTorqueOff_asu (s : State) : (s.reportTorqueOff).asu = s.asu := rfl
@[simp] theorem State.reportTorqueOff_image (s : State) : (s.reportTorqueOff).image = s.image := rfl
@[simp] theorem State.reportTorqueOff_map (s : State) : (s.reportTorqueOff).map = s.map := rfl
@[simp] theorem State.reportTorqueOff_limits (s : State) : (s.reportTorqueOff).limits = s.limits := rfl
@[simp] theorem State.reportTorqueOff_ale (s : State) : (s.reportTorqueOff).ale = s.ale := rfl
@[simp] theorem State.reportTorqueOff_act (s : State) : (s.reportTorqueOff).act = s.act := rfl
@[simp] theorem State.reportTorqueOff_statusCount (s : State) : (s.reportTorqueOff).statusCount = s.statusCount := rfl
@[simp] theorem State.reportTorqueOff_pointer (s : State) : (s.reportTorqueOff).pointer = s.pointer := rfl
@[simp] theorem State.reportTorqueOff_freeIndex (s : State) : (s.reportTorqueOff).freeIndex = s.freeIndex := rfl
@[simp] theorem State.reportTorqueOff_pending (s : State) : (s.reportTorqueOff).pending = s.pending := rfl

@[simp] theorem State.clearLatches_pins (s : State) : (s.clearLatches).pins = s.pins := rfl
@[simp] theorem State.clearLatches_inReset (s : State) : (s.clearLatches).inReset = s.inReset := rfl
@[simp] theorem State.clearLatches_timeBase (s : State) : (s.clearLatches).timeBase = s.timeBase := rfl
@[simp] theorem State.clearLatches_subClock (s : State) : (s.clearLatches).subClock = s.subClock := rfl
@[simp] theorem State.clearLatches_asu (s : State) : (s.clearLatches).asu = s.asu := rfl
@[simp] theorem State.clearLatches_map (s : State) : (s.clearLatches).map = s.map := rfl
@[simp] theorem State.clearLatches_limits (s : State) : (s.clearLatches).limits = s.limits := rfl
@[simp] theorem State.clearLatches_ale (s : State) : (s.clearLatches).ale = s.ale := rfl
@[simp] theorem State.clearLatches_act (s : State) : (s.clearLatches).act = s.act := rfl
@[simp] theorem State.clearLatches_statusCount (s : State) : (s.clearLatches).statusCount = s.statusCount := rfl
@[simp] theorem State.clearLatches_pointer (s : State) : (s.clearLatches).pointer = s.pointer := rfl
@[simp] theorem State.clearLatches_liu (s : State) : (s.clearLatches).liu = s.liu := rfl
@[simp] theorem State.clearLatches_freeIndex (s : State) : (s.clearLatches).freeIndex = s.freeIndex := rfl
@[simp] theorem State.clearLatches_pending (s : State) : (s.clearLatches).pending = s.pending := rfl

@[simp] theorem State.reportStatus_pins (s : State) : (s.reportStatus).pins = s.pins := by unfold State.reportStatus; split <;> rfl
@[simp] theorem State.reportStatus_inReset (s : State) : (s.reportStatus).inReset = s.inReset := by unfold State.reportStatus; split <;> rfl
@[simp] theorem State.reportStatus_timeBase (s : State) : (s.reportStatus).timeBase = s.timeBase := by unfold State.reportStatus; split <;> rfl
@[simp] theorem State.reportStatus_subClock (s : State) : (s.reportStatus).subClock = s.subClock := by unfold State.reportStatus; split <;> rfl
@[simp] theorem State.reportStatus_asu (s : State) : (s.reportStatus).asu = s.asu := by unfold State.reportStatus; split <;> rfl
@[simp] theorem State.reportStatus_map (s : State) : (s.reportStatus).map = s.map := by unfold State.reportStatus; split <;> rfl
@[simp] theorem State.reportStatus_limits (s : State) : (s.reportStatus).limits = s.limits := by unfold State.reportStatus; split <;> rfl
@[simp] theorem State.reportStatus_ale (s : State) : (s.reportStatus).ale = s.ale := by unfold State.reportStatus; split <;> rfl
@[simp] theorem State.reportStatus_act (s : State) : (s.reportStatus).act = s.act := by unfold State.reportStatus; split <;> rfl
@[simp] theorem State.reportStatus_pointer (s : State) : (s.reportStatus).pointer = s.pointer := by unfold State.reportStatus; split <;> rfl
@[simp] theorem State.reportStatus_freeIndex (s : State) : (s.reportStatus).freeIndex = s.freeIndex := by unfold State.reportStatus; split <;> rfl
@[simp] theorem State.reportStatus_pending (s : State) : (s.reportStatus).pending = s.pending := by unfold State.reportStatus; split <;> rfl

@[simp] theorem State.reportCompletion_pins (s : State) (r : PerAxle Latched) : (s.reportCompletion r).pins = s.pins := by simp [State.reportCompletion]
@[simp] theorem State.reportCompletion_inReset (s : State) (r : PerAxle Latched) : (s.reportCompletion r).inReset = s.inReset := by simp [State.reportCompletion]
@[simp] theorem State.reportCompletion_timeBase (s : State) (r : PerAxle Latched) : (s.reportCompletion r).timeBase = s.timeBase := by simp [State.reportCompletion]
@[simp] theorem State.reportCompletion_subClock (s : State) (r : PerAxle Latched) : (s.reportCompletion r).subClock = s.subClock := by simp [State.reportCompletion]
@[simp] theorem State.reportCompletion_asu (s : State) (r : PerAxle Latched) : (s.reportCompletion r).asu = s.asu := by simp [State.reportCompletion]
@[simp] theorem State.reportCompletion_map (s : State) (r : PerAxle Latched) : (s.reportCompletion r).map = s.map := by simp [State.reportCompletion]
@[simp] theorem State.reportCompletion_limits (s : State) (r : PerAxle Latched) : (s.reportCompletion r).limits = s.limits := by simp [State.reportCompletion]
@[simp] theorem State.reportCompletion_ale (s : State) (r : PerAxle Latched) : (s.reportCompletion r).ale = s.ale := by simp [State.reportCompletion]
@[simp] theorem State.reportCompletion_act (s : State) (r : PerAxle Latched) : (s.reportCompletion r).act = s.act := by simp [State.reportCompletion]
@[simp] theorem State.reportCompletion_pointer (s : State) (r : PerAxle Latched) : (s.reportCompletion r).pointer = s.pointer := by simp [State.reportCompletion]
@[simp] theorem State.reportCompletion_freeIndex (s : State) (r : PerAxle Latched) : (s.reportCompletion r).freeIndex = s.freeIndex := by simp [State.reportCompletion]
@[simp] theorem State.reportCompletion_pending (s : State) (r : PerAxle Latched) : (s.reportCompletion r).pending = s.pending := by simp [State.reportCompletion]

@[simp] theorem State.setActive_pins (s : State) (c : ConfigSet) : (s.setActive c).pins = s.pins := rfl
@[simp] theorem State.setActive_inReset (s : State) (c : ConfigSet) : (s.setActive c).inReset = s.inReset := rfl
@[simp] theorem State.setActive_timeBase (s : State) (c : ConfigSet) : (s.setActive c).timeBase = s.timeBase := rfl
@[simp] theorem State.setActive_subClock (s : State) (c : ConfigSet) : (s.setActive c).subClock = s.subClock := rfl
@[simp] theorem State.setActive_ptm (s : State) (c : ConfigSet) : (s.setActive c).ptm = s.ptm := rfl
@[simp] theorem State.setActive_image (s : State) (c : ConfigSet) : (s.setActive c).image = s.image := rfl
@[simp] theorem State.setActive_map (s : State) (c : ConfigSet) : (s.setActive c).map = s.map := rfl
@[simp] theorem State.setActive_limits (s : State) (c : ConfigSet) : (s.setActive c).limits = s.limits := rfl
@[simp] theorem State.setActive_ale (s : State) (c : ConfigSet) : (s.setActive c).ale = s.ale := rfl
@[simp] theorem State.setActive_statusCount (s : State) (c : ConfigSet) : (s.setActive c).statusCount = s.statusCount := rfl
@[simp] theorem State.setActive_pointer (s : State) (c : ConfigSet) : (s.setActive c).pointer = s.pointer := rfl
@[simp] theorem State.setActive_liu (s : State) (c : ConfigSet) : (s.setActive c).liu = s.liu := rfl
@[simp] theorem State.setActive_freeIndex (s : State) (c : ConfigSet) : (s.setActive c).freeIndex = s.freeIndex := rfl
@[simp] theorem State.setActive_pending (s : State) (c : ConfigSet) : (s.setActive c).pending = s.pending := rfl

@[simp] theorem State.movePending_pins (s : State) : (s.movePending).pins = s.pins := rfl
@[simp] theorem State.movePending_inReset (s : State) : (s.movePending).inReset = s.inReset := rfl
@[simp] theorem State.movePending_timeBase (s : State) : (s.movePending).timeBase = s.timeBase := rfl
@[simp] theorem State.movePending_subClock (s : State) : (s.movePending).subClock = s.subClock := rfl
@[simp] theorem State.movePending_ptm (s : State) : (s.movePending).ptm = s.ptm := rfl
@[simp] theorem State.movePending_image (s : State) : (s.movePending).image = s.image := rfl
@[simp] theorem State.movePending_map (s : State) : (s.movePending).map = s.map := rfl
@[simp] theorem State.movePending_limits (s : State) : (s.movePending).limits = s.limits := rfl
@[simp] theorem State.movePending_ale (s : State) : (s.movePending).ale = s.ale := rfl
@[simp] theorem State.movePending_statusCount (s : State) : (s.movePending).statusCount = s.statusCount := rfl
@[simp] theorem State.movePending_pointer (s : State) : (s.movePending).pointer = s.pointer := rfl
@[simp] theorem State.movePending_liu (s : State) : (s.movePending).liu = s.liu := rfl
@[simp] theorem State.movePending_freeIndex (s : State) : (s.movePending).freeIndex = s.freeIndex := rfl
@[simp] theorem State.movePending_pending (s : State) : (s.movePending).pending = s.pending := rfl

@[simp] theorem State.setAlloc_pins (s : State) (x : AllocState) : (s.setAlloc x).pins = s.pins := rfl
@[simp] theorem State.setAlloc_inReset (s : State) (x : AllocState) : (s.setAlloc x).inReset = s.inReset := rfl
@[simp] theorem State.setAlloc_timeBase (s : State) (x : AllocState) : (s.setAlloc x).timeBase = s.timeBase := rfl
@[simp] theorem State.setAlloc_subClock (s : State) (x : AllocState) : (s.setAlloc x).subClock = s.subClock := rfl
@[simp] theorem State.setAlloc_ptm (s : State) (x : AllocState) : (s.setAlloc x).ptm = s.ptm := rfl
@[simp] theorem State.setAlloc_asu (s : State) (x : AllocState) : (s.setAlloc x).asu = s.asu := rfl
@[simp] theorem State.setAlloc_image (s : State) (x : AllocState) : (s.setAlloc x).image = s.image := rfl
@[simp] theorem State.setAlloc_map (s : State) (x : AllocState) : (s.setAlloc x).map = s.map := rfl
@[simp] theorem State.setAlloc_limits (s : State) (x : AllocState) : (s.setAlloc x).limits = s.limits := rfl
@[simp] theorem State.setAlloc_ale (s : State) (x : AllocState) : (s.setAlloc x).ale = s.ale := rfl
@[simp] theorem State.setAlloc_statusCount (s : State) (x : AllocState) : (s.setAlloc x).statusCount = s.statusCount := rfl
@[simp] theorem State.setAlloc_pointer (s : State) (x : AllocState) : (s.setAlloc x).pointer = s.pointer := rfl
@[simp] theorem State.setAlloc_liu (s : State) (x : AllocState) : (s.setAlloc x).liu = s.liu := rfl
@[simp] theorem State.setAlloc_freeIndex (s : State) (x : AllocState) : (s.setAlloc x).freeIndex = s.freeIndex := rfl
@[simp] theorem State.setAlloc_pending (s : State) (x : AllocState) : (s.setAlloc x).pending = s.pending := rfl

@[simp] theorem State.endRampdown_pins (s : State) : (s.endRampdown).pins = s.pins := by unfold State.endRampdown; split <;> rfl
@[simp] theorem State.endRampdown_inReset (s : State) : (s.endRampdown).inReset = s.inReset := by unfold State.endRampdown; split <;> rfl
@[simp] theorem State.endRampdown_timeBase (s : State) : (s.endRampdown).timeBase = s.timeBase := by unfold State.endRampdown; split <;> rfl
@[simp] theorem State.endRampdown_subClock (s : State) : (s.endRampdown).subClock = s.subClock := by unfold State.endRampdown; split <;> rfl
@[simp] theorem State.endRampdown_ptm (s : State) : (s.endRampdown).ptm = s.ptm := by unfold State.endRampdown; split <;> rfl
@[simp] theorem State.endRampdown_asu (s : State) : (s.endRampdown).asu = s.asu := by unfold State.endRampdown; split <;> rfl
@[simp] theorem State.endRampdown_image (s : State) : (s.endRampdown).image = s.image := by unfold State.endRampdown; split <;> rfl
@[simp] theorem State.endRampdown_map (s : State) : (s.endRampdown).map = s.map := by unfold State.endRampdown; split <;> rfl
@[simp] theorem State.endRampdown_limits (s : State) : (s.endRampdown).limits = s.limits := by unfold State.endRampdown; split <;> rfl
@[simp] theorem State.endRampdown_ale (s : State) : (s.endRampdown).ale = s.ale := by unfold State.endRampdown; split <;> rfl
@[simp] theorem State.endRampdown_statusCount (s : State) : (s.endRampdown).statusCount = s.statusCount := by unfold State.endRampdown; split <;> rfl
@[simp] theorem State.endRampdown_pointer (s : State) : (s.endRampdown).pointer = s.pointer := by unfold State.endRampdown; split <;> rfl
@[simp] theorem State.endRampdown_liu (s : State) : (s.endRampdown).liu = s.liu := by unfold State.endRampdown; split <;> rfl
@[simp] theorem State.endRampdown_freeIndex (s : State) : (s.endRampdown).freeIndex = s.freeIndex := by unfold State.endRampdown; split <;> rfl
@[simp] theorem State.endRampdown_pending (s : State) : (s.endRampdown).pending = s.pending := by unfold State.endRampdown; split <;> rfl

@[simp] theorem State.torqueOff_pins (s : State) : (s.torqueOff).pins = s.pins := rfl
@[simp] theorem State.torqueOff_inReset (s : State) : (s.torqueOff).inReset = s.inReset := rfl
@[simp] theorem State.torqueOff_timeBase (s : State) : (s.torqueOff).timeBase = s.timeBase := rfl
@[simp] theorem State.torqueOff_subClock (s : State) : (s.torqueOff).subClock = s.subClock := rfl
@[simp] theorem State.torqueOff_ptm (s : State) : (s.torqueOff).ptm = s.ptm := rfl
@[simp] theorem State.torqueOff_asu (s : State) : (s.torqueOff).asu = s.asu := rfl
@[simp] theorem State.torqueOff_image (s : State) : (s.torqueOff).image = s.image := rfl
@[simp] theorem State.torqueOff_map (s : State) : (s.torqueOff).map = s.map := rfl
@[simp] theorem State.torqueOff_limits (s : State) : (s.torqueOff).limits = s.limits := rfl
@[simp] theorem State.torqueOff_statusCount (s : State) : (s.torqueOff).statusCount = s.statusCount := rfl
@[simp] theorem State.torqueOff_pointer (s : State) : (s.torqueOff).pointer = s.pointer := rfl
@[simp] theorem State.torqueOff_freeIndex (s : State) : (s.torqueOff).freeIndex = s.freeIndex := rfl
@[simp] theorem State.torqueOff_pending (s : State) : (s.torqueOff).pending = s.pending := rfl

@[simp] theorem State.publish_pins (s : State) (x : Pass) : (s.publish x).pins = s.pins := rfl
@[simp] theorem State.publish_inReset (s : State) (x : Pass) : (s.publish x).inReset = s.inReset := rfl
@[simp] theorem State.publish_timeBase (s : State) (x : Pass) : (s.publish x).timeBase = s.timeBase := rfl
@[simp] theorem State.publish_subClock (s : State) (x : Pass) : (s.publish x).subClock = s.subClock := rfl
@[simp] theorem State.publish_ptm (s : State) (x : Pass) : (s.publish x).ptm = s.ptm := rfl
@[simp] theorem State.publish_asu (s : State) (x : Pass) : (s.publish x).asu = s.asu := rfl
@[simp] theorem State.publish_image (s : State) (x : Pass) : (s.publish x).image = s.image := rfl
@[simp] theorem State.publish_map (s : State) (x : Pass) : (s.publish x).map = s.map := rfl
@[simp] theorem State.publish_limits (s : State) (x : Pass) : (s.publish x).limits = s.limits := rfl
@[simp] theorem State.publish_act (s : State) (x : Pass) : (s.publish x).act = s.act := rfl
@[simp] theorem State.publish_statusCount (s : State) (x : Pass) : (s.publish x).statusCount = s.statusCount := rfl
@[simp] theorem State.publish_pointer (s : State) (x : Pass) : (s.publish x).pointer = s.pointer := rfl
@[simp] theorem State.publish_liu (s : State) (x : Pass) : (s.publish x).liu = s.liu := rfl
@[simp] theorem State.publish_freeIndex (s : State) (x : Pass) : (s.publish x).freeIndex = s.freeIndex := rfl
@[simp] theorem State.publish_pending (s : State) (x : Pass) : (s.publish x).pending = s.pending := rfl

@[simp] theorem State.complete_pins (s : State) (x : Pass) : (s.complete x).pins = s.pins := by simp [State.complete]
@[simp] theorem State.complete_inReset (s : State) (x : Pass) : (s.complete x).inReset = s.inReset := by simp [State.complete]
@[simp] theorem State.complete_timeBase (s : State) (x : Pass) : (s.complete x).timeBase = s.timeBase := by simp [State.complete]
@[simp] theorem State.complete_subClock (s : State) (x : Pass) : (s.complete x).subClock = s.subClock := by simp [State.complete]
@[simp] theorem State.complete_asu (s : State) (x : Pass) : (s.complete x).asu = s.asu := by simp [State.complete]
@[simp] theorem State.complete_map (s : State) (x : Pass) : (s.complete x).map = s.map := by simp [State.complete]
@[simp] theorem State.complete_limits (s : State) (x : Pass) : (s.complete x).limits = s.limits := by simp [State.complete]
@[simp] theorem State.complete_pointer (s : State) (x : Pass) : (s.complete x).pointer = s.pointer := by simp [State.complete]
@[simp] theorem State.complete_freeIndex (s : State) (x : Pass) : (s.complete x).freeIndex = s.freeIndex := by simp [State.complete]
@[simp] theorem State.complete_pending (s : State) (x : Pass) : (s.complete x).pending = s.pending := by simp [State.complete]

@[simp] theorem State.closeWindows_pins (s : State) (t : Time) : (s.closeWindows t).pins = s.pins := rfl
@[simp] theorem State.closeWindows_inReset (s : State) (t : Time) : (s.closeWindows t).inReset = s.inReset := rfl
@[simp] theorem State.closeWindows_timeBase (s : State) (t : Time) : (s.closeWindows t).timeBase = s.timeBase := rfl
@[simp] theorem State.closeWindows_subClock (s : State) (t : Time) : (s.closeWindows t).subClock = s.subClock := rfl
@[simp] theorem State.closeWindows_ptm (s : State) (t : Time) : (s.closeWindows t).ptm = s.ptm := rfl
@[simp] theorem State.closeWindows_image (s : State) (t : Time) : (s.closeWindows t).image = s.image := rfl
@[simp] theorem State.closeWindows_map (s : State) (t : Time) : (s.closeWindows t).map = s.map := rfl
@[simp] theorem State.closeWindows_limits (s : State) (t : Time) : (s.closeWindows t).limits = s.limits := rfl
@[simp] theorem State.closeWindows_ale (s : State) (t : Time) : (s.closeWindows t).ale = s.ale := rfl
@[simp] theorem State.closeWindows_act (s : State) (t : Time) : (s.closeWindows t).act = s.act := rfl
@[simp] theorem State.closeWindows_statusCount (s : State) (t : Time) : (s.closeWindows t).statusCount = s.statusCount := rfl
@[simp] theorem State.closeWindows_pointer (s : State) (t : Time) : (s.closeWindows t).pointer = s.pointer := rfl
@[simp] theorem State.closeWindows_liu (s : State) (t : Time) : (s.closeWindows t).liu = s.liu := rfl
@[simp] theorem State.closeWindows_freeIndex (s : State) (t : Time) : (s.closeWindows t).freeIndex = s.freeIndex := rfl
@[simp] theorem State.closeWindows_pending (s : State) (t : Time) : (s.closeWindows t).pending = s.pending := rfl

@[simp] theorem State.applyMap_pins (s : State) : (s.applyMap).pins = s.pins := rfl
@[simp] theorem State.applyMap_inReset (s : State) : (s.applyMap).inReset = s.inReset := rfl
@[simp] theorem State.applyMap_timeBase (s : State) : (s.applyMap).timeBase = s.timeBase := rfl
@[simp] theorem State.applyMap_subClock (s : State) : (s.applyMap).subClock = s.subClock := rfl
@[simp] theorem State.applyMap_ptm (s : State) : (s.applyMap).ptm = s.ptm := rfl
@[simp] theorem State.applyMap_asu (s : State) : (s.applyMap).asu = s.asu := rfl
@[simp] theorem State.applyMap_image (s : State) : (s.applyMap).image = s.image := rfl
@[simp] theorem State.applyMap_limits (s : State) : (s.applyMap).limits = s.limits := rfl
@[simp] theorem State.applyMap_ale (s : State) : (s.applyMap).ale = s.ale := rfl
@[simp] theorem State.applyMap_act (s : State) : (s.applyMap).act = s.act := rfl
@[simp] theorem State.applyMap_statusCount (s : State) : (s.applyMap).statusCount = s.statusCount := rfl
@[simp] theorem State.applyMap_pointer (s : State) : (s.applyMap).pointer = s.pointer := rfl
@[simp] theorem State.applyMap_liu (s : State) : (s.applyMap).liu = s.liu := rfl
@[simp] theorem State.applyMap_freeIndex (s : State) : (s.applyMap).freeIndex = s.freeIndex := rfl
@[simp] theorem State.applyMap_pending (s : State) : (s.applyMap).pending = s.pending := rfl

@[simp] theorem State.advanceImage_pins (s : State) : (s.advanceImage).pins = s.pins := rfl
@[simp] theorem State.advanceImage_inReset (s : State) : (s.advanceImage).inReset = s.inReset := rfl
@[simp] theorem State.advanceImage_timeBase (s : State) : (s.advanceImage).timeBase = s.timeBase := rfl
@[simp] theorem State.advanceImage_subClock (s : State) : (s.advanceImage).subClock = s.subClock := rfl
@[simp] theorem State.advanceImage_ptm (s : State) : (s.advanceImage).ptm = s.ptm := rfl
@[simp] theorem State.advanceImage_asu (s : State) : (s.advanceImage).asu = s.asu := rfl
@[simp] theorem State.advanceImage_map (s : State) : (s.advanceImage).map = s.map := rfl
@[simp] theorem State.advanceImage_limits (s : State) : (s.advanceImage).limits = s.limits := rfl
@[simp] theorem State.advanceImage_ale (s : State) : (s.advanceImage).ale = s.ale := rfl
@[simp] theorem State.advanceImage_act (s : State) : (s.advanceImage).act = s.act := rfl
@[simp] theorem State.advanceImage_statusCount (s : State) : (s.advanceImage).statusCount = s.statusCount := rfl
@[simp] theorem State.advanceImage_pointer (s : State) : (s.advanceImage).pointer = s.pointer := rfl
@[simp] theorem State.advanceImage_liu (s : State) : (s.advanceImage).liu = s.liu := rfl
@[simp] theorem State.advanceImage_freeIndex (s : State) : (s.advanceImage).freeIndex = s.freeIndex := rfl
@[simp] theorem State.advanceImage_pending (s : State) : (s.advanceImage).pending = s.pending := rfl

@[simp] theorem State.completeLatches_pins (s : State) (u : PerAxle Bool) (i : ImageCopy) (c : ConfigSet) : (s.completeLatches u i c).pins = s.pins := rfl
@[simp] theorem State.completeLatches_inReset (s : State) (u : PerAxle Bool) (i : ImageCopy) (c : ConfigSet) : (s.completeLatches u i c).inReset = s.inReset := rfl
@[simp] theorem State.completeLatches_timeBase (s : State) (u : PerAxle Bool) (i : ImageCopy) (c : ConfigSet) : (s.completeLatches u i c).timeBase = s.timeBase := rfl
@[simp] theorem State.completeLatches_subClock (s : State) (u : PerAxle Bool) (i : ImageCopy) (c : ConfigSet) : (s.completeLatches u i c).subClock = s.subClock := rfl
@[simp] theorem State.completeLatches_ptm (s : State) (u : PerAxle Bool) (i : ImageCopy) (c : ConfigSet) : (s.completeLatches u i c).ptm = s.ptm := rfl
@[simp] theorem State.completeLatches_image (s : State) (u : PerAxle Bool) (i : ImageCopy) (c : ConfigSet) : (s.completeLatches u i c).image = s.image := rfl
@[simp] theorem State.completeLatches_map (s : State) (u : PerAxle Bool) (i : ImageCopy) (c : ConfigSet) : (s.completeLatches u i c).map = s.map := rfl
@[simp] theorem State.completeLatches_limits (s : State) (u : PerAxle Bool) (i : ImageCopy) (c : ConfigSet) : (s.completeLatches u i c).limits = s.limits := rfl
@[simp] theorem State.completeLatches_ale (s : State) (u : PerAxle Bool) (i : ImageCopy) (c : ConfigSet) : (s.completeLatches u i c).ale = s.ale := rfl
@[simp] theorem State.completeLatches_act (s : State) (u : PerAxle Bool) (i : ImageCopy) (c : ConfigSet) : (s.completeLatches u i c).act = s.act := rfl
@[simp] theorem State.completeLatches_statusCount (s : State) (u : PerAxle Bool) (i : ImageCopy) (c : ConfigSet) : (s.completeLatches u i c).statusCount = s.statusCount := rfl
@[simp] theorem State.completeLatches_pointer (s : State) (u : PerAxle Bool) (i : ImageCopy) (c : ConfigSet) : (s.completeLatches u i c).pointer = s.pointer := rfl
@[simp] theorem State.completeLatches_liu (s : State) (u : PerAxle Bool) (i : ImageCopy) (c : ConfigSet) : (s.completeLatches u i c).liu = s.liu := rfl
@[simp] theorem State.completeLatches_freeIndex (s : State) (u : PerAxle Bool) (i : ImageCopy) (c : ConfigSet) : (s.completeLatches u i c).freeIndex = s.freeIndex := rfl
@[simp] theorem State.completeLatches_pending (s : State) (u : PerAxle Bool) (i : ImageCopy) (c : ConfigSet) : (s.completeLatches u i c).pending = s.pending := rfl

@[simp] theorem State.consumeLifetime_pins (s : State) : (s.consumeLifetime).pins = s.pins := rfl
@[simp] theorem State.consumeLifetime_inReset (s : State) : (s.consumeLifetime).inReset = s.inReset := rfl
@[simp] theorem State.consumeLifetime_timeBase (s : State) : (s.consumeLifetime).timeBase = s.timeBase := rfl
@[simp] theorem State.consumeLifetime_subClock (s : State) : (s.consumeLifetime).subClock = s.subClock := rfl
@[simp] theorem State.consumeLifetime_ptm (s : State) : (s.consumeLifetime).ptm = s.ptm := rfl
@[simp] theorem State.consumeLifetime_asu (s : State) : (s.consumeLifetime).asu = s.asu := rfl
@[simp] theorem State.consumeLifetime_image (s : State) : (s.consumeLifetime).image = s.image := rfl
@[simp] theorem State.consumeLifetime_map (s : State) : (s.consumeLifetime).map = s.map := rfl
@[simp] theorem State.consumeLifetime_ale (s : State) : (s.consumeLifetime).ale = s.ale := rfl
@[simp] theorem State.consumeLifetime_act (s : State) : (s.consumeLifetime).act = s.act := rfl
@[simp] theorem State.consumeLifetime_statusCount (s : State) : (s.consumeLifetime).statusCount = s.statusCount := rfl
@[simp] theorem State.consumeLifetime_pointer (s : State) : (s.consumeLifetime).pointer = s.pointer := rfl
@[simp] theorem State.consumeLifetime_liu (s : State) : (s.consumeLifetime).liu = s.liu := rfl
@[simp] theorem State.consumeLifetime_freeIndex (s : State) : (s.consumeLifetime).freeIndex = s.freeIndex := rfl
@[simp] theorem State.consumeLifetime_pending (s : State) : (s.consumeLifetime).pending = s.pending := rfl

@[simp] theorem State.loadSync_pins (s : State) : (s.loadSync).pins = s.pins := rfl
@[simp] theorem State.loadSync_inReset (s : State) : (s.loadSync).inReset = s.inReset := rfl
@[simp] theorem State.loadSync_timeBase (s : State) : (s.loadSync).timeBase = s.timeBase := rfl
@[simp] theorem State.loadSync_subClock (s : State) : (s.loadSync).subClock = s.subClock := rfl
@[simp] theorem State.loadSync_asu (s : State) : (s.loadSync).asu = s.asu := rfl
@[simp] theorem State.loadSync_image (s : State) : (s.loadSync).image = s.image := rfl
@[simp] theorem State.loadSync_map (s : State) : (s.loadSync).map = s.map := rfl
@[simp] theorem State.loadSync_limits (s : State) : (s.loadSync).limits = s.limits := rfl
@[simp] theorem State.loadSync_ale (s : State) : (s.loadSync).ale = s.ale := rfl
@[simp] theorem State.loadSync_act (s : State) : (s.loadSync).act = s.act := rfl
@[simp] theorem State.loadSync_statusCount (s : State) : (s.loadSync).statusCount = s.statusCount := rfl
@[simp] theorem State.loadSync_pointer (s : State) : (s.loadSync).pointer = s.pointer := rfl
@[simp] theorem State.loadSync_liu (s : State) : (s.loadSync).liu = s.liu := rfl
@[simp] theorem State.loadSync_freeIndex (s : State) : (s.loadSync).freeIndex = s.freeIndex := rfl
@[simp] theorem State.loadSync_pending (s : State) : (s.loadSync).pending = s.pending := rfl

@[simp] theorem State.startPass_pins (s : State) (u : PerAxle Bool) (c : ConfigSet) : (s.startPass u c).pins = s.pins := by simp [State.startPass]
@[simp] theorem State.startPass_inReset (s : State) (u : PerAxle Bool) (c : ConfigSet) : (s.startPass u c).inReset = s.inReset := by simp [State.startPass]
@[simp] theorem State.startPass_timeBase (s : State) (u : PerAxle Bool) (c : ConfigSet) : (s.startPass u c).timeBase = s.timeBase := by simp [State.startPass]
@[simp] theorem State.startPass_subClock (s : State) (u : PerAxle Bool) (c : ConfigSet) : (s.startPass u c).subClock = s.subClock := by simp [State.startPass]
@[simp] theorem State.startPass_statusCount (s : State) (u : PerAxle Bool) (c : ConfigSet) : (s.startPass u c).statusCount = s.statusCount := by simp [State.startPass]
@[simp] theorem State.startPass_pointer (s : State) (u : PerAxle Bool) (c : ConfigSet) : (s.startPass u c).pointer = s.pointer := by simp [State.startPass]
@[simp] theorem State.startPass_liu (s : State) (u : PerAxle Bool) (c : ConfigSet) : (s.startPass u c).liu = s.liu := by simp [State.startPass]
@[simp] theorem State.startPass_pending (s : State) (u : PerAxle Bool) (c : ConfigSet) : (s.startPass u c).pending = s.pending := by simp [State.startPass]

@[simp] theorem State.takeBoundary_pins (s : State) (t : Time) : (s.takeBoundary t).pins = s.pins := by simp [State.takeBoundary]
@[simp] theorem State.takeBoundary_inReset (s : State) (t : Time) : (s.takeBoundary t).inReset = s.inReset := by simp [State.takeBoundary]
@[simp] theorem State.takeBoundary_timeBase (s : State) (t : Time) : (s.takeBoundary t).timeBase = s.timeBase := by simp [State.takeBoundary]
@[simp] theorem State.takeBoundary_subClock (s : State) (t : Time) : (s.takeBoundary t).subClock = s.subClock := by simp [State.takeBoundary]
@[simp] theorem State.takeBoundary_statusCount (s : State) (t : Time) : (s.takeBoundary t).statusCount = s.statusCount := by simp [State.takeBoundary]
@[simp] theorem State.takeBoundary_pointer (s : State) (t : Time) : (s.takeBoundary t).pointer = s.pointer := by simp [State.takeBoundary]
@[simp] theorem State.takeBoundary_liu (s : State) (t : Time) : (s.takeBoundary t).liu = s.liu := by simp [State.takeBoundary]
@[simp] theorem State.takeBoundary_pending (s : State) (t : Time) : (s.takeBoundary t).pending = s.pending := by simp [State.takeBoundary]

@[simp] theorem State.skipBoundary_pins (s : State) (t : Time) : (s.skipBoundary t).pins = s.pins := rfl
@[simp] theorem State.skipBoundary_inReset (s : State) (t : Time) : (s.skipBoundary t).inReset = s.inReset := rfl
@[simp] theorem State.skipBoundary_timeBase (s : State) (t : Time) : (s.skipBoundary t).timeBase = s.timeBase := rfl
@[simp] theorem State.skipBoundary_subClock (s : State) (t : Time) : (s.skipBoundary t).subClock = s.subClock := rfl
@[simp] theorem State.skipBoundary_asu (s : State) (t : Time) : (s.skipBoundary t).asu = s.asu := rfl
@[simp] theorem State.skipBoundary_image (s : State) (t : Time) : (s.skipBoundary t).image = s.image := rfl
@[simp] theorem State.skipBoundary_map (s : State) (t : Time) : (s.skipBoundary t).map = s.map := rfl
@[simp] theorem State.skipBoundary_limits (s : State) (t : Time) : (s.skipBoundary t).limits = s.limits := rfl
@[simp] theorem State.skipBoundary_ale (s : State) (t : Time) : (s.skipBoundary t).ale = s.ale := rfl
@[simp] theorem State.skipBoundary_act (s : State) (t : Time) : (s.skipBoundary t).act = s.act := rfl
@[simp] theorem State.skipBoundary_statusCount (s : State) (t : Time) : (s.skipBoundary t).statusCount = s.statusCount := rfl
@[simp] theorem State.skipBoundary_pointer (s : State) (t : Time) : (s.skipBoundary t).pointer = s.pointer := rfl
@[simp] theorem State.skipBoundary_liu (s : State) (t : Time) : (s.skipBoundary t).liu = s.liu := rfl
@[simp] theorem State.skipBoundary_freeIndex (s : State) (t : Time) : (s.skipBoundary t).freeIndex = s.freeIndex := rfl
@[simp] theorem State.skipBoundary_pending (s : State) (t : Time) : (s.skipBoundary t).pending = s.pending := rfl

@[simp] theorem State.boundary_pins (s : State) (t : Time) : (s.boundary t).pins = s.pins := by unfold State.boundary; split <;> simp
@[simp] theorem State.boundary_inReset (s : State) (t : Time) : (s.boundary t).inReset = s.inReset := by unfold State.boundary; split <;> simp
@[simp] theorem State.boundary_timeBase (s : State) (t : Time) : (s.boundary t).timeBase = s.timeBase := by unfold State.boundary; split <;> simp
@[simp] theorem State.boundary_subClock (s : State) (t : Time) : (s.boundary t).subClock = s.subClock := by unfold State.boundary; split <;> simp
@[simp] theorem State.boundary_statusCount (s : State) (t : Time) : (s.boundary t).statusCount = s.statusCount := by unfold State.boundary; split <;> simp
@[simp] theorem State.boundary_pointer (s : State) (t : Time) : (s.boundary t).pointer = s.pointer := by unfold State.boundary; split <;> simp
@[simp] theorem State.boundary_liu (s : State) (t : Time) : (s.boundary t).liu = s.liu := by unfold State.boundary; split <;> simp
@[simp] theorem State.boundary_pending (s : State) (t : Time) : (s.boundary t).pending = s.pending := by unfold State.boundary; split <;> simp

@[simp] theorem State.qualifiedEdge_pins (s : State) : (s.qualifiedEdge).pins = s.pins := by unfold State.qualifiedEdge; dsimp only; split <;> (try split) <;> (try split) <;> simp
@[simp] theorem State.qualifiedEdge_inReset (s : State) : (s.qualifiedEdge).inReset = s.inReset := by unfold State.qualifiedEdge; dsimp only; split <;> (try split) <;> (try split) <;> simp
@[simp] theorem State.qualifiedEdge_timeBase (s : State) : (s.qualifiedEdge).timeBase = s.timeBase := by unfold State.qualifiedEdge; dsimp only; split <;> (try split) <;> (try split) <;> simp
@[simp] theorem State.qualifiedEdge_subClock (s : State) : (s.qualifiedEdge).subClock = s.subClock := by unfold State.qualifiedEdge; dsimp only; split <;> (try split) <;> (try split) <;> simp
@[simp] theorem State.qualifiedEdge_statusCount (s : State) : (s.qualifiedEdge).statusCount = s.statusCount := by unfold State.qualifiedEdge; dsimp only; split <;> (try split) <;> (try split) <;> simp
@[simp] theorem State.qualifiedEdge_pointer (s : State) : (s.qualifiedEdge).pointer = s.pointer := by unfold State.qualifiedEdge; dsimp only; split <;> (try split) <;> (try split) <;> simp
@[simp] theorem State.qualifiedEdge_liu (s : State) : (s.qualifiedEdge).liu = s.liu := by unfold State.qualifiedEdge; dsimp only; split <;> (try split) <;> (try split) <;> simp
@[simp] theorem State.qualifiedEdge_pending (s : State) : (s.qualifiedEdge).pending = s.pending := by unfold State.qualifiedEdge; dsimp only; split <;> (try split) <;> (try split) <;> simp

@[simp] theorem State.loseLine_pins (s : State) : (s.loseLine).pins = s.pins := by unfold State.loseLine; dsimp only; split <;> simp
@[simp] theorem State.loseLine_inReset (s : State) : (s.loseLine).inReset = s.inReset := by unfold State.loseLine; dsimp only; split <;> simp
@[simp] theorem State.loseLine_timeBase (s : State) : (s.loseLine).timeBase = s.timeBase := by unfold State.loseLine; dsimp only; split <;> simp
@[simp] theorem State.loseLine_subClock (s : State) : (s.loseLine).subClock = s.subClock := by unfold State.loseLine; dsimp only; split <;> simp
@[simp] theorem State.loseLine_statusCount (s : State) : (s.loseLine).statusCount = s.statusCount := by unfold State.loseLine; dsimp only; split <;> simp
@[simp] theorem State.loseLine_pointer (s : State) : (s.loseLine).pointer = s.pointer := by unfold State.loseLine; dsimp only; split <;> simp
@[simp] theorem State.loseLine_liu (s : State) : (s.loseLine).liu = s.liu := by unfold State.loseLine; dsimp only; split <;> simp
@[simp] theorem State.loseLine_pending (s : State) : (s.loseLine).pending = s.pending := by unfold State.loseLine; dsimp only; split <;> simp

@[simp] theorem State.takeLevels_pins (s : State) : (s.takeLevels).pins = s.pins := rfl
@[simp] theorem State.takeLevels_inReset (s : State) : (s.takeLevels).inReset = s.inReset := rfl
@[simp] theorem State.takeLevels_timeBase (s : State) : (s.takeLevels).timeBase = s.timeBase := rfl
@[simp] theorem State.takeLevels_subClock (s : State) : (s.takeLevels).subClock = s.subClock := rfl
@[simp] theorem State.takeLevels_image (s : State) : (s.takeLevels).image = s.image := rfl
@[simp] theorem State.takeLevels_map (s : State) : (s.takeLevels).map = s.map := rfl
@[simp] theorem State.takeLevels_limits (s : State) : (s.takeLevels).limits = s.limits := rfl
@[simp] theorem State.takeLevels_ale (s : State) : (s.takeLevels).ale = s.ale := rfl
@[simp] theorem State.takeLevels_statusCount (s : State) : (s.takeLevels).statusCount = s.statusCount := rfl
@[simp] theorem State.takeLevels_pointer (s : State) : (s.takeLevels).pointer = s.pointer := rfl
@[simp] theorem State.takeLevels_freeIndex (s : State) : (s.takeLevels).freeIndex = s.freeIndex := rfl
@[simp] theorem State.takeLevels_pending (s : State) : (s.takeLevels).pending = s.pending := rfl

@[simp] theorem State.advanceTime_pins (s : State) : (s.advanceTime).pins = s.pins := by unfold State.advanceTime; split <;> rfl
@[simp] theorem State.advanceTime_inReset (s : State) : (s.advanceTime).inReset = s.inReset := by unfold State.advanceTime; split <;> rfl
@[simp] theorem State.advanceTime_ptm (s : State) : (s.advanceTime).ptm = s.ptm := by unfold State.advanceTime; split <;> rfl
@[simp] theorem State.advanceTime_asu (s : State) : (s.advanceTime).asu = s.asu := by unfold State.advanceTime; split <;> rfl
@[simp] theorem State.advanceTime_image (s : State) : (s.advanceTime).image = s.image := by unfold State.advanceTime; split <;> rfl
@[simp] theorem State.advanceTime_map (s : State) : (s.advanceTime).map = s.map := by unfold State.advanceTime; split <;> rfl
@[simp] theorem State.advanceTime_limits (s : State) : (s.advanceTime).limits = s.limits := by unfold State.advanceTime; split <;> rfl
@[simp] theorem State.advanceTime_ale (s : State) : (s.advanceTime).ale = s.ale := by unfold State.advanceTime; split <;> rfl
@[simp] theorem State.advanceTime_act (s : State) : (s.advanceTime).act = s.act := by unfold State.advanceTime; split <;> rfl
@[simp] theorem State.advanceTime_statusCount (s : State) : (s.advanceTime).statusCount = s.statusCount := by unfold State.advanceTime; split <;> rfl
@[simp] theorem State.advanceTime_pointer (s : State) : (s.advanceTime).pointer = s.pointer := by unfold State.advanceTime; split <;> rfl
@[simp] theorem State.advanceTime_liu (s : State) : (s.advanceTime).liu = s.liu := by unfold State.advanceTime; split <;> rfl
@[simp] theorem State.advanceTime_freeIndex (s : State) : (s.advanceTime).freeIndex = s.freeIndex := by unfold State.advanceTime; split <;> rfl
@[simp] theorem State.advanceTime_pending (s : State) : (s.advanceTime).pending = s.pending := by unfold State.advanceTime; split <;> rfl

@[simp] theorem State.advance_pins (s : State) : (s.advance).pins = s.pins := by simp [State.advance]
@[simp] theorem State.advance_inReset (s : State) : (s.advance).inReset = s.inReset := by simp [State.advance]
@[simp] theorem State.advance_ptm (s : State) : (s.advance).ptm = s.ptm := by simp [State.advance]
@[simp] theorem State.advance_image (s : State) : (s.advance).image = s.image := by simp [State.advance]
@[simp] theorem State.advance_map (s : State) : (s.advance).map = s.map := by simp [State.advance]
@[simp] theorem State.advance_limits (s : State) : (s.advance).limits = s.limits := by simp [State.advance]
@[simp] theorem State.advance_statusCount (s : State) : (s.advance).statusCount = s.statusCount := by simp [State.advance]
@[simp] theorem State.advance_pointer (s : State) : (s.advance).pointer = s.pointer := by simp [State.advance]
@[simp] theorem State.advance_freeIndex (s : State) : (s.advance).freeIndex = s.freeIndex := by simp [State.advance]
@[simp] theorem State.advance_pending (s : State) : (s.advance).pending = s.pending := by simp [State.advance]

@[simp] theorem State.queued_pins (s : State) (es last : List Instr) : (s.queued es last).pins = s.pins := rfl
@[simp] theorem State.queued_inReset (s : State) (es last : List Instr) : (s.queued es last).inReset = s.inReset := rfl
@[simp] theorem State.queued_timeBase (s : State) (es last : List Instr) : (s.queued es last).timeBase = s.timeBase := rfl
@[simp] theorem State.queued_subClock (s : State) (es last : List Instr) : (s.queued es last).subClock = s.subClock := rfl
@[simp] theorem State.queued_ptm (s : State) (es last : List Instr) : (s.queued es last).ptm = s.ptm := rfl
@[simp] theorem State.queued_asu (s : State) (es last : List Instr) : (s.queued es last).asu = s.asu := rfl
@[simp] theorem State.queued_image (s : State) (es last : List Instr) : (s.queued es last).image = s.image := rfl
@[simp] theorem State.queued_map (s : State) (es last : List Instr) : (s.queued es last).map = s.map := rfl
@[simp] theorem State.queued_limits (s : State) (es last : List Instr) : (s.queued es last).limits = s.limits := rfl
@[simp] theorem State.queued_ale (s : State) (es last : List Instr) : (s.queued es last).ale = s.ale := rfl
@[simp] theorem State.queued_act (s : State) (es last : List Instr) : (s.queued es last).act = s.act := rfl
@[simp] theorem State.queued_statusCount (s : State) (es last : List Instr) : (s.queued es last).statusCount = s.statusCount := rfl
@[simp] theorem State.queued_pointer (s : State) (es last : List Instr) : (s.queued es last).pointer = s.pointer := rfl
@[simp] theorem State.queued_liu (s : State) (es last : List Instr) : (s.queued es last).liu = s.liu := rfl

@[simp] theorem State.answered_pins (s : State) (l : Link) (f : Frame) (st : Status) (d : List Byte) : (s.answered l f st d).pins = s.pins := rfl
@[simp] theorem State.answered_inReset (s : State) (l : Link) (f : Frame) (st : Status) (d : List Byte) : (s.answered l f st d).inReset = s.inReset := rfl
@[simp] theorem State.answered_timeBase (s : State) (l : Link) (f : Frame) (st : Status) (d : List Byte) : (s.answered l f st d).timeBase = s.timeBase := rfl
@[simp] theorem State.answered_subClock (s : State) (l : Link) (f : Frame) (st : Status) (d : List Byte) : (s.answered l f st d).subClock = s.subClock := rfl
@[simp] theorem State.answered_ptm (s : State) (l : Link) (f : Frame) (st : Status) (d : List Byte) : (s.answered l f st d).ptm = s.ptm := rfl
@[simp] theorem State.answered_asu (s : State) (l : Link) (f : Frame) (st : Status) (d : List Byte) : (s.answered l f st d).asu = s.asu := rfl
@[simp] theorem State.answered_image (s : State) (l : Link) (f : Frame) (st : Status) (d : List Byte) : (s.answered l f st d).image = s.image := rfl
@[simp] theorem State.answered_map (s : State) (l : Link) (f : Frame) (st : Status) (d : List Byte) : (s.answered l f st d).map = s.map := rfl
@[simp] theorem State.answered_limits (s : State) (l : Link) (f : Frame) (st : Status) (d : List Byte) : (s.answered l f st d).limits = s.limits := rfl
@[simp] theorem State.answered_ale (s : State) (l : Link) (f : Frame) (st : Status) (d : List Byte) : (s.answered l f st d).ale = s.ale := rfl
@[simp] theorem State.answered_act (s : State) (l : Link) (f : Frame) (st : Status) (d : List Byte) : (s.answered l f st d).act = s.act := rfl
@[simp] theorem State.answered_statusCount (s : State) (l : Link) (f : Frame) (st : Status) (d : List Byte) : (s.answered l f st d).statusCount = s.statusCount := rfl
@[simp] theorem State.answered_freeIndex (s : State) (l : Link) (f : Frame) (st : Status) (d : List Byte) : (s.answered l f st d).freeIndex = s.freeIndex := rfl
@[simp] theorem State.answered_pending (s : State) (l : Link) (f : Frame) (st : Status) (d : List Byte) : (s.answered l f st d).pending = s.pending := rfl

end Sys2Proof.Machine
end

