-- ==== Sys2Proof/Laws/Request.lean ====
section
/-! SUPPORT. The Request Engine: what a kind code names, what serving a frame can do, and what the owners
leave alone. -/

namespace Sys2Proof

/-- The code of a kind names that kind (R152). -/
@[simp] theorem Kind.ofCode_code (k : Kind) : Kind.ofCode k.code = some k := by cases k <;> decide

/-- A code names a kind exactly when it is that kind's (R152). -/
theorem Kind.ofCode_eq_some {c : BitVec 6} {k : Kind} : Kind.ofCode c = some k ↔ c = k.code := by
  constructor
  · intro h
    have := List.find?_some h
    simp only [beq_iff_eq] at this
    exact this.symm
  · rintro rfl; exact k.ofCode_code

/-- Every kind is in the table (R152). -/
theorem Kind.mem_all (k : Kind) : k ∈ Kind.all := by cases k <;> decide

/-- A code names no kind exactly when it is the code of none (R152). -/
theorem Kind.ofCode_eq_none {c : BitVec 6} : Kind.ofCode c = none ↔ ∀ k : Kind, c ≠ k.code := by
  constructor
  · rintro h k rfl; simp at h
  · intro h
    cases e : Kind.ofCode c with
    | none => rfl
    | some k => exact absurd (Kind.ofCode_eq_some.1 e) (h k)

namespace Machine

/-! ### The link that is served -/

@[simp] theorem State.liuOf_modLiu_same (s : State) (l : Link) (g : Liu → Liu) : (s.modLiu l g).liuOf l = g (s.liuOf l) := by
  simp [State.liuOf, State.modLiu]

theorem State.liuOf_modLiu_ne (s : State) {l m : Link} (g : Liu → Liu) (h : m ≠ l) : (s.modLiu l g).liuOf m = s.liuOf m := by
  simp [State.liuOf, State.modLiu, PerLink.get_set_ne _ _ h.symm]

@[simp] theorem State.modLiu_modLiu (s : State) (l : Link) (g h : Liu → Liu) :
    (s.modLiu l g).modLiu l h = s.modLiu l fun u => h (g u) := by
  simp [State.modLiu]

@[simp] theorem State.modLiu_id (s : State) (l : Link) : (s.modLiu l fun u => u) = s := by simp [State.modLiu]

/-- Two changes of a link that agree on its state leave the same. -/
theorem State.modLiu_congr (s : State) (l : Link) {g h : Liu → Liu} (e : g (s.liuOf l) = h (s.liuOf l)) :
    s.modLiu l g = s.modLiu l h := by
  unfold State.modLiu
  unfold State.liuOf at e
  rw [e]

@[simp] theorem State.liuOf_dequeue_same (s : State) (l : Link) :
    (s.dequeue l).liuOf l = { s.liuOf l with rxQueue := (s.liuOf l).rxQueue.tail } := by
  simp [State.dequeue, State.liuOf, State.modLiu]

theorem State.liuOf_dequeue_ne (s : State) {l m : Link} (h : m ≠ l) : (s.dequeue l).liuOf m = s.liuOf m := by
  simp [State.dequeue, State.liuOf, State.modLiu, PerLink.get_set_ne _ _ h.symm]

@[simp] theorem State.dequeue_pointer (s : State) (l : Link) : (s.dequeue l).pointer = l.next := rfl

@[simp] theorem State.answer_none (s : State) (l : Link) (f : Frame) : s.answer l f none = s := rfl

@[simp] theorem State.liuOf_answer_some (s : State) (l : Link) (f : Frame) (a : Answer) :
    (s.answer l f (some a)).liuOf l = (s.liuOf l).appendResponse (response f a) :=
  State.liuOf_modLiu_same s l _

theorem State.liuOf_answer_ne (s : State) {l m : Link} (f : Frame) (o : Option Answer) (h : m ≠ l) :
    (s.answer l f o).liuOf m = s.liuOf m := by
  cases o
  · rfl
  · exact State.liuOf_modLiu_ne s _ h

/-! ### What serving can do (R154, R157, R158) -/

/-- A served frame of a kind is judged by the checks and its owner, and answered. -/
theorem serve_of_kind {k : Kind} {owner : Owner} {s : State} {l : Link} {f : Frame} (h : s.Serves l f) (hk : f.kind = k.code) :
    serve k owner s =
      .next ((judge k owner l f (s.dequeue l)).1.answer l f (judge k owner l f (s.dequeue l)).2) := by
  simp [serve, State.live, State.handle, h.1, h.2, hk]

/-- A frame that passes the checks is its owner's to judge. -/
theorem serve_owner {k : Kind} {owner : Owner} {s : State} {l : Link} {f : Frame} (h : s.Serves l f) (hp : f.Passes k l) :
    serve k owner s = .next ((owner l f.payload (s.dequeue l)).1.answer l f (owner l f.payload (s.dequeue l)).2) := by
  rw [serve_of_kind h hp.1]; simp [judge, hp.2.1, hp.2.2]

/-- A frame of a link that its kind is not permitted to is refused. -/
theorem serve_not_permitted {k : Kind} {owner : Owner} {s : State} {l : Link} {f : Frame} (h : s.Serves l f)
    (hk : f.kind = k.code) (hp : k.permitted l = false) :
    serve k owner s = .next (s.answered l f .notPermitted []) := by
  rw [serve_of_kind h hk]; simp [judge, hp, State.answered, bare]

/-- A frame of the wrong length is refused. -/
theorem serve_bad_length {k : Kind} {owner : Owner} {s : State} {l : Link} {f : Frame} (h : s.Serves l f)
    (hk : f.kind = k.code) (hp : k.permitted l = true) (hl : f.payload.length ≠ k.length) :
    serve k owner s = .next (s.answered l f .badField []) := by
  rw [serve_of_kind h hk]; simp [judge, hp, hl, State.answered, bare]

/-- Where the arbiter serves no frame of the kind, nothing happens. -/
theorem serve_other {k : Kind} {owner : Owner} {s : State} (h : ∀ l f, s.served = some (l, f) → f.kind ≠ k.code) :
    serve k owner s = .next s := by
  unfold serve State.live State.handle
  split
  · rfl
  · dsimp only
    split
    · rfl
    · rename_i l f e
      rw [if_neg (by simpa [Kind.ofCode_eq_some] using h l f e)]

/-- What every state that serving can leave has in common with the state before: a property that the removal
of the frame, the owner and the answer keep, holds after. -/
theorem serve_keeps {k : Kind} {owner : Owner} {s : State} (P : State → Prop) (h0 : P s)
    (hd : ∀ l f, s.served = some (l, f) → P (s.dequeue l)) (ho : ∀ l p t, P t → P (owner l p t).1)
    (ha : ∀ t l f a, P t → P (t.answer l f a)) : ∃ t, serve k owner s = .next t ∧ P t := by
  refine ⟨_, rfl, ?_⟩
  unfold State.live
  split
  · exact h0
  · unfold State.handle
    dsimp only
    split
    · exact h0
    · rename_i l f e
      split
      · unfold judge
        repeat' split
        · exact ha _ _ _ _ (hd _ _ e)
        · exact ha _ _ _ _ (hd _ _ e)
        · exact ha _ _ _ _ (ho _ _ _ (hd _ _ e))
      · exact h0

/-! ### What no frame changes (R5) -/

/-- Two states that differ only in what a frame may change: the image, the map, the limits, ACT, the armed
flags, the links and the pointer. -/
def State.SameCore (s t : State) : Prop :=
  t.pending = s.pending ∧ t.pins = s.pins ∧ t.timeBase = s.timeBase ∧ t.subClock = s.subClock ∧
    t.inReset = s.inReset ∧ t.ale = s.ale ∧ t.ptm = s.ptm ∧ t.statusCount = s.statusCount ∧
    t.freeIndex = s.freeIndex ∧ t.act.filtered = s.act.filtered ∧ t.act.pinLevel = s.act.pinLevel ∧
    t.act.held = s.act.held ∧ ∀ a, { t.asuOf a with armed := (s.asuOf a).armed } = s.asuOf a

theorem State.SameCore.refl (s : State) : s.SameCore s := by simp [State.SameCore]

theorem State.SameCore.trans {s t u : State} (h : s.SameCore t) (k : t.SameCore u) : s.SameCore u := by
  obtain ⟨h1, h2, h3, h4, h5, h6, h7, h8, h9, h10, h11, h12, h13⟩ := h
  obtain ⟨k1, k2, k3, k4, k5, k6, k7, k8, k9, k10, k11, k12, k13⟩ := k
  refine ⟨k1.trans h1, k2.trans h2, k3.trans h3, k4.trans h4, k5.trans h5, k6.trans h6, k7.trans h7, k8.trans h8,
    k9.trans h9, k10.trans h10, k11.trans h11, k12.trans h12, fun a => ?_⟩
  rw [← h13 a, ← k13 a]

theorem State.SameCore.dequeue (s : State) (l : Link) : s.SameCore (s.dequeue l) := by
  simp [State.SameCore, State.asuOf]

theorem State.SameCore.answer (s : State) (l : Link) (f : Frame) (o : Option Answer) : s.SameCore (s.answer l f o) := by
  simp [State.SameCore, State.asuOf]

/-- Disarming changes the armed flag alone (R91, R92). -/
theorem disarm_get (old new : ConfigSet) (asu : PerAxle Asu) (a : Axle) :
    (disarm old new asu).get a = { asu.get a with
      armed := (asu.get a).armed && decide (new.cpr a = old.cpr a) && (!old.indexUse a || new.indexUse a) } := by
  simp only [disarm, PerAxle.get_of]
  by_cases h1 : old.cpr a = new.cpr a <;> cases h2 : old.indexUse a <;> cases h3 : new.indexUse a <;>
    simp [h1, eq_comm (a := new.cpr a)]

/-- The owners' judgments, in the order of R152's table. -/
def allOwners : List Owner :=
  [takeDemand, takeEnvelope, takeReference, postLimit, withdrawLimit, listLimit, stageEntry, commitEntry,
   flushMap, readEntry, probeMap, writeConfig, readConfig, enableAlloc, disableAlloc, queryStatus]

/-- Every owner leaves the core as it was. -/
theorem owner_sameCore (l : Link) (p : List Byte) (t : State) : ∀ o ∈ allOwners, t.SameCore (o l p t).1 := by
  simp only [allOwners, List.forall_mem_cons, List.not_mem_nil, false_implies, implies_true, and_true]
  refine ⟨?_, ?_, ?_, ?_, ?_, ?_, ?_, ?_, ?_, ?_, ?_, ?_, ?_, ?_, ?_, ?_⟩
  · unfold takeDemand; repeat' split
    all_goals simp [State.SameCore, State.asuOf]
  · unfold takeEnvelope; split <;> simp [State.SameCore, State.asuOf]
  · unfold takeReference; split <;> simp [State.SameCore, State.asuOf]
  · unfold postLimit; dsimp only; repeat' split
    all_goals simp [State.SameCore, State.asuOf]
  · unfold withdrawLimit; dsimp only; repeat' split
    all_goals simp [State.SameCore, State.asuOf]
  · unfold listLimit; dsimp only; split <;> simp [State.SameCore]
  · unfold stageEntry; dsimp only; split <;> simp [State.SameCore, State.asuOf]
  · unfold commitEntry; repeat' split
    all_goals simp [State.SameCore, State.asuOf]
  · unfold flushMap; split <;> simp [State.SameCore, State.asuOf]
  · unfold readEntry; split <;> simp [State.SameCore]
  · unfold probeMap; dsimp only; repeat' split
    all_goals simp [State.SameCore]
  · unfold writeConfig; dsimp only; split
    · simp [State.SameCore]
    · by_cases h : t.act.state = .standby
      · simp [h, State.SameCore, State.asuOf, State.setActive, Act.putPending, disarm_get]
      · simp [h, State.SameCore, State.asuOf, Act.putPending]
  · unfold readConfig; dsimp only; split <;> simp [State.SameCore]
  · unfold enableAlloc; split <;> simp [State.SameCore, State.setAlloc, State.asuOf]
  · simp [disableAlloc, State.SameCore, State.setAlloc, State.asuOf]
  · simp [queryStatus, State.SameCore]

/-- Serving a frame leaves the core as it was. -/
theorem serve_sameCore {k : Kind} {owner : Owner} (s : State) (h : owner ∈ allOwners) :
    ∃ t, serve k owner s = .next t ∧ s.SameCore t :=
  serve_keeps (fun t => s.SameCore t) (State.SameCore.refl s) (fun l _ _ => State.SameCore.dequeue s l)
    (fun l p t ht => ht.trans (owner_sameCore l p t owner h)) (fun t l f a ht => ht.trans (State.SameCore.answer t l f a))

end Machine
end Sys2Proof
end

