-- ==== Sys2Proof/Laws/Boundary.lean ====
section
/-! SUPPORT. A taken boundary, block by block: what the start of a pass leaves of each (R1). -/

namespace Sys2Proof.Machine

/-- Every record loses one pass of lifetime (R62, R63). -/
theorem State.takeBoundary_limits (s : State) (t : Time) : (s.takeBoundary t).limits = consumeLimits s.limits := by
  simp [State.takeBoundary, State.startPass, State.movePending, State.setActive, State.closeWindows, State.applyMap,
    State.advanceImage, State.completeLatches, State.consumeLifetime, State.loadSync]

theorem State.takeBoundary_image (s : State) (t : Time) : (s.takeBoundary t).image = s.image.advance := by
  simp [State.takeBoundary, State.startPass, State.movePending, State.setActive, State.closeWindows, State.applyMap,
    State.advanceImage, State.completeLatches, State.consumeLifetime, State.loadSync]

theorem State.takeBoundary_act (s : State) (t : Time) : (s.takeBoundary t).act = s.movePending.act := by
  simp [State.takeBoundary, State.startPass, State.movePending, State.setActive, State.closeWindows, State.applyMap,
    State.advanceImage, State.completeLatches, State.consumeLifetime, State.loadSync]

theorem State.takeBoundary_map (s : State) (t : Time) :
    ∃ k d, (s.takeBoundary t).map = (s.map.applyPending.lookup k d).1 := by
  exact ⟨_, _, rfl⟩

theorem State.takeBoundary_ptm (s : State) (t : Time) :
    (s.takeBoundary t).ptm = { s.ptm with
      periodCount := s.ptm.periodCount + 1, lastBoundary := t
      select := EdgeSelect.ofValue ((s.takeBoundary t).act.active.val .syncEdge)
      divider := (s.takeBoundary t).act.active.val .syncDivider
      dividerCount :=
        if EdgeSelect.ofValue ((s.takeBoundary t).act.active.val .syncEdge) = s.ptm.select ∧
            (s.takeBoundary t).act.active.val .syncDivider = s.ptm.divider
        then s.ptm.dividerCount else 0 } := by
  rw [State.takeBoundary_act]
  simp only [State.takeBoundary, State.startPass, State.movePending, State.setActive, State.closeWindows, State.applyMap,
    State.advanceImage, State.completeLatches, State.consumeLifetime, State.loadSync]
  rfl

theorem State.takeBoundary_published (s : State) (t : Time) : (s.takeBoundary t).ale.published = s.ale.published := by
  simp [State.takeBoundary, State.startPass, State.movePending, State.setActive, State.closeWindows, State.applyMap,
    State.advanceImage, State.completeLatches, State.consumeLifetime, State.loadSync]

theorem State.takeBoundary_carried (s : State) (t : Time) : (s.takeBoundary t).ale.carried = s.ale.carried := by
  simp [State.takeBoundary, State.startPass, State.movePending, State.setActive, State.closeWindows, State.applyMap,
    State.advanceImage, State.completeLatches, State.consumeLifetime, State.loadSync]

/-- The pass a boundary starts, field by field (R1, R2). -/
theorem State.takeBoundary_pass (s : State) (t : Time) : ∃ x, (s.takeBoundary t).ale.pass = some x ∧
    x.toffTaken = false ∧ x.clocks = 0 ∧ x.latency ≤ passClocks ∧ x.copy.config = s.movePending.act.active ∧
    x.copy.allocState = s.act.state ∧ x.copy.limits = s.limits ∧ x.copy.carried = s.ale.carried ∧
    x.copy.prev = s.ale.published.torque ∧
    x.copy.image = ({ s with image := s.image.advance, act := s.movePending.act } : State).imageCopy ∧
    (∀ a, x.copy.latched.get a = ((s.takeBoundary t).asuOf a).latched) ∧
    (x.copy.policy, x.copy.mapResult) =
      (s.map.applyPending.lookup (passKey x.copy.image x.copy.latched) s.movePending.act.active.defaultPolicy).2 := by
  refine ⟨_, rfl, rfl, rfl, Nat.min_le_right _ _, ?_, ?_, ?_, ?_, ?_, ?_, ?_, ?_⟩
  all_goals
    simp [State.movePending, State.setActive, State.closeWindows, State.applyMap,
      State.advanceImage, State.completeLatches, State.consumeLifetime, State.loadSync, State.imageCopy, State.liuOf,
      State.asuOf]
  intro a
  simp [State.takeBoundary, State.startPass, State.movePending, State.setActive, State.closeWindows, State.applyMap,
    State.advanceImage, State.completeLatches, State.consumeLifetime, State.loadSync, State.imageCopy, State.liuOf]

/-- Good evidence changes the health and its counts alone (R87). -/
theorem Asu.goodEvidence_eq (u : Asu) : u.goodEvidence = { u with
    health := u.goodEvidence.health, faultCount := u.goodEvidence.faultCount, goodRun := u.goodEvidence.goodRun } := by
  unfold Asu.goodEvidence
  split
  · split <;> rfl
  · rfl
  · rfl

/-- Bad evidence changes the health and its counts alone (R87). -/
theorem Asu.badEvidence_eq (u : Asu) : u.badEvidence = { u with
    health := u.badEvidence.health, faultCount := u.badEvidence.faultCount, goodRun := u.badEvidence.goodRun } := by
  unfold Asu.badEvidence
  split <;> rfl

/-- The evidence of a closing window changes the health and its counts alone (R86, R87). -/
theorem Asu.windowEvidence_eq (u : Asu) (b : Bool) : u.windowEvidence b = { u with
    health := (u.windowEvidence b).health, faultCount := (u.windowEvidence b).faultCount
    goodRun := (u.windowEvidence b).goodRun } := by
  unfold Asu.windowEvidence
  split
  · exact u.badEvidence_eq
  · split
    · rfl
    · exact u.goodEvidence_eq

/-- The completion of a latched result changes its speed and its state alone (R89). -/
theorem Asu.completeLatch_eq (u : Asu) (usable : Bool) (env : Marked EnvelopeRec) (ratio : Nat) :
    u.completeLatch usable env ratio = { u with latched := { u.latched with
      speed := if usable then u.latched.speed
        else if env.fresh then substituteSpeed env.fields.motorSpeed ratio else 0
      state := if usable then u.latched.state else if env.fresh then .substitute else .invalid } } := by
  unfold Asu.completeLatch
  cases usable <;> cases h : env.fresh <;> simp

/-- An axle's unit after a taken boundary: its window closed under the old configuration, its check disarmed
by the new one, its latched result completed (R1, R78, R88, R89, R91). -/
theorem State.takeBoundary_asuOf (s : State) (t : Time) (a : Axle) :
    let c := s.act.active
    let u := (s.asuOf a).closeWindow (c.cpr a) (c.indexUse a) t
    (s.takeBoundary t).asuOf a =
      ({ u with armed := u.armed && decide ((s.takeBoundary t).act.active.cpr a = c.cpr a) &&
          (!c.indexUse a || (s.takeBoundary t).act.active.indexUse a) } : Asu).completeLatch
        ((s.asuOf a).usable (c.indexUse a))
        (({ s with image := s.image.advance, act := (s.takeBoundary t).act } : State).imageCopy.envelope.get a)
        (c.ratio a) := by
  intro c u
  rw [State.takeBoundary_act]
  simp [State.takeBoundary, State.startPass, State.movePending, State.setActive, State.closeWindows, State.applyMap,
    State.advanceImage, State.completeLatches, State.consumeLifetime, State.loadSync, State.imageCopy,
    State.asuOf, disarm_get, State.sensorsUsable, State.liuOf, c, u]
  rfl

end Sys2Proof.Machine
end

