-- ==== Sys2Proof/Laws/Ops.lean ====
section
/-! SUPPORT. The arithmetic of Ops: what clamping, moving toward a target, the smallest term and the
fields of a payload can be. -/

namespace Sys2Proof.Machine

/-- Clamping lands in the range. -/
theorem clampInt_mem {lo hi : Int} (h : lo ≤ hi) (v : Int) : lo ≤ clampInt lo hi v ∧ clampInt lo hi v ≤ hi := by
  unfold clampInt; split_ifs <;> omega

/-- A value in the range is kept. -/
theorem clampInt_of_mem {lo hi v : Int} (h1 : lo ≤ v) (h2 : v ≤ hi) : clampInt lo hi v = v := by
  unfold clampInt; split_ifs <;> omega

/-- Clamping to a range that holds zero does not raise a magnitude or turn a sign. -/
theorem clampInt_abs_le {lo hi : Int} (h1 : lo ≤ 0) (h2 : 0 ≤ hi) (v : Int) :
    |clampInt lo hi v| ≤ |v| ∧ (0 ≤ v → 0 ≤ clampInt lo hi v) ∧ (v ≤ 0 → clampInt lo hi v ≤ 0) := by
  unfold clampInt
  simp only [abs_eq_max_neg]
  split_ifs <;> omega

/-- Clamping lands in the range. -/
theorem clampNat_mem {lo hi : Nat} (h : lo ≤ hi) (v : Nat) : lo ≤ clampNat lo hi v ∧ clampNat lo hi v ≤ hi := by
  unfold clampNat; split_ifs <;> omega

/-- Moving toward a target ends between the value and the target, no more than a step away. -/
theorem moveToward_spec {v target step : Int} (h : 0 ≤ step) :
    |moveToward v target step - v| ≤ step ∧
      (v ≤ target → v ≤ moveToward v target step ∧ moveToward v target step ≤ target) ∧
      (target ≤ v → target ≤ moveToward v target step ∧ moveToward v target step ≤ v) := by
  unfold moveToward
  simp only [abs_eq_max_neg]
  split_ifs <;> omega

/-- The target is reached when it is no more than a step away. -/
theorem moveToward_reaches {v target step : Int} (h : |target - v| ≤ step) : moveToward v target step = target := by
  unfold moveToward; rw [if_pos h]

/-- The smallest term is no greater than the first. -/
theorem smallest_le_first (first : Nat) (terms : List Nat) : smallest first terms ≤ first := by
  unfold smallest
  induction terms generalizing first with
  | nil => simp
  | cons t ts ih => exact (ih (min first t)).trans (min_le_left _ _)

/-- The smallest term is no greater than any term. -/
theorem smallest_le_mem (first : Nat) {terms : List Nat} {t : Nat} (h : t ∈ terms) : smallest first terms ≤ t := by
  unfold smallest
  induction terms generalizing first with
  | nil => cases h
  | cons u us ih =>
    rcases List.mem_cons.1 h with rfl | h
    · exact (smallest_le_first (min first t) us).trans (min_le_right _ _)
    · exact ih (min first u) h

/-- The smallest term is one of the terms. -/
theorem smallest_mem (first : Nat) (terms : List Nat) : smallest first terms = first ∨ smallest first terms ∈ terms := by
  unfold smallest
  induction terms generalizing first with
  | nil => simp
  | cons t ts ih =>
    rcases ih (min first t) with h | h
    · rcases min_choice first t with e | e <;> rw [e] at h
      · left; simpa [e] using h
      · right; simp [e, h]
    · right; exact List.mem_cons_of_mem _ h

/-- The sign of a torque. -/
theorem signOf_eq (t : Int) :
    (signOf t = .positive ↔ 0 < t) ∧ (signOf t = .negative ↔ t < 0) ∧ (signOf t = .none ↔ t = 0) := by
  unfold signOf
  split_ifs <;> simp <;> omega

/-- A word's two bytes, low byte first, give the word back (00 "Frames"). -/
theorem bytes_of_word (w : BitVec 16) :
    (w.extractLsb' 0 8).toNat + 256 * (w.extractLsb' 8 8).toNat = w.toNat := by
  simp only [BitVec.extractLsb'_toNat, Nat.shiftRight_eq_div_pow]
  have := w.isLt
  omega

/-- An unsigned field reads back from its two bytes. -/
theorem u16_word2 (p q : List Byte) (w : BitVec 16) : u16 (p ++ word2 w ++ q) p.length = w.toNat := by
  simp only [u16, u8, word2]
  rw [← bytes_of_word w]
  congr 2
  · simp [List.getD_eq_getElem?_getD]
  · simp [List.getD_eq_getElem?_getD]

/-- A signed field reads back from its two bytes. -/
theorem s16_word2 (p q : List Byte) (w : BitVec 16) : s16 (p ++ word2 w ++ q) p.length = w.toInt := by
  rw [s16, u16_word2, BitVec.ofNat_toNat, BitVec.setWidth_eq]

end Sys2Proof.Machine
end

