-- ==== Sys2Proof/Laws/Fields.lean ====
section
/-! SUPPORT. The operand forms: the range of a payload field, what each code names, and clamping written
with the smaller and the greater value. -/

namespace Sys2Proof.Machine

/-- A byte field is below 256. -/
theorem u8_lt (p : List Byte) (i : Nat) : u8 p i < 256 := BitVec.isLt _

/-- A two-byte field is below 65536. -/
theorem u16_lt (p : List Byte) (i : Nat) : u16 p i < 65536 := by
  have := u8_lt p i
  have := u8_lt p (i + 1)
  unfold u16
  omega

/-- A signed field is its unsigned value read as two's complement. -/
theorem s16_eq (p : List Byte) (i : Nat) : s16 p i = twos16 (u16 p i) := by
  have h := u16_lt p i
  have e : ((2 : Int) ^ 16) = 65536 := by norm_num
  unfold s16 twos16
  rw [BitVec.toInt_eq_toNat_cond, BitVec.toNat_ofNat, Nat.mod_eq_of_lt h]
  split_ifs <;> omega

/-- The range of a signed field. -/
theorem s16_mem (p : List Byte) (i : Nat) : -32768 ≤ s16 p i ∧ s16 p i ≤ 32767 := by
  have := u16_lt p i
  rw [s16_eq]; unfold twos16; split_ifs <;> omega

theorem clampInt_eq {lo hi : Int} (h : lo ≤ hi) (v : Int) : clampInt lo hi v = max lo (min hi v) := by
  unfold clampInt; split_ifs <;> omega

theorem clampNat_eq {lo hi : Nat} (h : lo ≤ hi) (v : Nat) : clampNat lo hi v = max lo (min hi v) := by
  unfold clampNat; split_ifs <;> omega

/-- A byte of 0 or 1 is a flag. -/
theorem flagOfByte_some {n : Nat} (h : n ≤ 1) : flagOfByte n = some (decide (n = 1)) := by
  interval_cases n <;> rfl

/-- A byte above 1 is none. -/
theorem flagOfByte_none {n : Nat} (h : 1 < n) : flagOfByte n = none := by
  match n, h with
  | n + 2, _ => rfl

/-- The byte of a key field names it. -/
@[simp] theorem keyOfByte_toNat (k : KeyField) : keyOfByte k.toNat = some k := by
  cases k with
  | any => rfl
  | band b => simp [keyOfByte, KeyField.toNat]

/-- The bytes that name no key field (R40). -/
theorem keyOfByte_none {n : Nat} (h1 : 8 ≤ n) (h2 : n ≤ 254) : keyOfByte n = none := by
  unfold keyOfByte; rw [dif_neg (by omega), if_neg (by omega)]

/-- The code of a limit's axle names it. -/
@[simp] theorem LimitAxle.ofCode_code (a : LimitAxle) : LimitAxle.ofCode a.code = some a := by cases a <;> rfl

/-- A code above 2 names no axle of a limit. -/
theorem LimitAxle.ofCode_none {n : Nat} (h : 2 < n) : LimitAxle.ofCode n = none := by
  match n, h with
  | n + 3, _ => rfl

/-- The code of a limit's kind names it. -/
@[simp] theorem LimitKind.ofCode_code (k : LimitKind) : LimitKind.ofCode k.code = some k := by cases k <;> rfl

/-- A code above 3 names no kind of limit. -/
theorem LimitKind.ofCode_none {n : Nat} (h : 3 < n) : LimitKind.ofCode n = none := by
  match n, h with
  | n + 4, _ => rfl

@[simp] theorem setOfByte_val (n : Fin 16) : setOfByte n.val = some n := by simp [setOfByte]

theorem setOfByte_none {n : Nat} (h : 15 < n) : setOfByte n = none := by
  unfold setOfByte; rw [dif_neg (by omega)]

@[simp] theorem wayChoiceOf_way (w : Fin 4) : wayChoiceOf w.val = some (.way w) := by simp [wayChoiceOf]

@[simp] theorem wayChoiceOf_auto : wayChoiceOf 4 = some .auto := rfl

theorem wayChoiceOf_none {n : Nat} (h : 4 < n) : wayChoiceOf n = none := by
  unfold wayChoiceOf; rw [dif_neg (by omega), if_neg (by omega)]

@[simp] theorem bandOf_val (b : Fin 8) : bandOf b.val = some b := by simp [bandOf]

theorem bandOf_none {n : Nat} (h : 7 < n) : bandOf n = none := by
  unfold bandOf; rw [dif_neg (by omega)]

/-- The two bytes of an unsigned field (00 "Frames"). -/
theorem nat2_eq (n : Nat) : nat2 n = [BitVec.ofNat 8 n, BitVec.ofNat 8 (n / 256)] := by
  unfold nat2 word2
  congr 1
  · apply BitVec.eq_of_toNat_eq; simp
  · congr 1
    apply BitVec.eq_of_toNat_eq
    simp only [BitVec.extractLsb'_toNat, BitVec.toNat_ofNat, Nat.shiftRight_eq_div_pow]
    omega

/-- The two bytes of a signed field (00 "Frames"). -/
theorem int2_eq (v : Int) : int2 v = [BitVec.ofInt 8 v, BitVec.ofInt 8 (v / 256)] := by
  unfold int2 word2
  congr 1
  · apply BitVec.eq_of_toNat_eq
    simp only [BitVec.extractLsb'_toNat, BitVec.toNat_ofInt]
    omega
  · congr 1
    apply BitVec.eq_of_toNat_eq
    simp only [BitVec.extractLsb'_toNat, BitVec.toNat_ofInt, Nat.shiftRight_eq_div_pow]
    omega

/-- An unsigned field is laid out as the signed field of the same value. -/
theorem nat2_eq_int2 (n : Nat) : nat2 n = int2 n := by unfold nat2 int2; congr 1

end Sys2Proof.Machine
end

