-- ==== Sys2Proof/Laws/Frames.lean ====
section
/-! SUPPORT. Frames as bytes: the header's two fields, and the sum of R150. -/

namespace Sys2Proof

theorem header_kind_bits : ∀ (t : BitVec 2) (k : BitVec 6), (t ++ k : BitVec (2 + 6)).extractLsb' 0 6 = k := by decide

theorem header_tag_bits : ∀ (t : BitVec 2) (k : BitVec 6), (t ++ k : BitVec (2 + 6)).extractLsb' 6 2 = t := by decide

theorem header_of_bits : ∀ b : Byte, (b.extractLsb' 6 2 ++ b.extractLsb' 0 6 : BitVec (2 + 6)) = b := by decide

/-- The header byte gives the kind code back (09 §9.1). -/
@[simp] theorem Frame.header_kind (f : Frame) : f.header.extractLsb' 0 6 = f.kind := header_kind_bits _ _

/-- The header byte gives the sequence tag back (09 §9.1). -/
@[simp] theorem Frame.header_tag (f : Frame) : f.header.extractLsb' 6 2 = f.tag := header_tag_bits _ _

@[simp] theorem byteSum_nil : byteSum [] = 0 := rfl

@[simp] theorem byteSum_cons (b : Byte) (bs : List Byte) : byteSum (b :: bs) = b + byteSum bs := rfl

/-- The sum of bytes that follow one another. -/
theorem byteSum_append (a b : List Byte) : byteSum (a ++ b) = byteSum a + byteSum b := by
  induction a with
  | nil => simp
  | cons x xs ih => rw [List.cons_append, byteSum_cons, byteSum_cons, ih, BitVec.add_assoc]

/-- The sum as a number modulo 256 (R150). -/
theorem byteSum_toNat (bs : List Byte) : (byteSum bs).toNat = (bs.map BitVec.toNat).sum % 256 := by
  induction bs with
  | nil => rfl
  | cons b bs ih => rw [byteSum_cons, BitVec.toNat_add, ih, List.map_cons, List.sum_cons]; omega

/-- The check byte brings the sum to 0 (R150). -/
theorem Frame.byteSum_bytes (f : Frame) : byteSum f.bytes = 0 := by
  have e : f.bytes = (f.header :: f.lengthByte :: f.payload) ++ [f.check] := rfl
  have one : byteSum [f.check] = f.check := by rw [byteSum_cons, byteSum_nil]; exact BitVec.add_zero (x := f.check)
  rw [e, byteSum_append, one, Frame.check, BitVec.add_right_neg]
  rfl

/-- The number of a frame's bytes (R150). -/
@[simp] theorem Frame.bytes_length (f : Frame) : f.bytes.length = f.payload.length + 3 := by simp [Frame.bytes]

/-- The length byte of a frame that fits (R150). -/
theorem Frame.lengthByte_toNat {f : Frame} (h : f.WellFormed) : f.lengthByte.toNat = f.payload.length := by
  simp only [Frame.WellFormed] at h
  simp only [Frame.lengthByte, BitVec.toNat_ofNat]
  omega

end Sys2Proof
end

