-- ==== Sys2Proof/Laws/Pass.lean ====
section
/-! SUPPORT. The shared steps of a pass: the clip to an axle's bounds, the bounds themselves, the rate
bound, and what stage 9 can do to a command. -/

namespace Sys2Proof.Machine

/-- A clip lands within the axle's bounds, raises no magnitude and turns no sign (R19). -/
theorem PassCopy.clip_spec (p : PassCopy) (a : Axle) (t : Int) :
    -(p.regenBound a : Int) ≤ p.clip a t ∧ p.clip a t ≤ p.driveBound a ∧ |p.clip a t| ≤ |t| ∧
      (0 ≤ t → 0 ≤ p.clip a t) ∧ (t ≤ 0 → p.clip a t ≤ 0) := by
  have m := clampInt_mem (lo := -(p.regenBound a : Int)) (hi := p.driveBound a) (by omega) t
  have n := clampInt_abs_le (lo := -(p.regenBound a : Int)) (hi := p.driveBound a) (by omega) (by omega) t
  exact ⟨m.1, m.2, n⟩

/-- The bounds are no greater than the capabilities the copy holds (R18). -/
theorem PassCopy.bound_le (p : PassCopy) (a : Axle) :
    p.driveBound a ≤ (p.image.envelope.get a).fields.drive ∧
      p.regenBound a ≤ (p.image.envelope.get a).fields.regen := by
  constructor
  · refine (smallest_le_first _ _).trans ?_
    split_ifs <;> omega
  · refine (smallest_le_first _ _).trans ?_
    split_ifs <;> omega

/-- A ceiling is the value of a record of its kind that covers the axle (R69, R70). -/
theorem mem_ceilings {table : List Limit} {k : LimitKind} {a : Axle} {v : Nat} :
    v ∈ ceilings table k a ↔ ∃ r ∈ table, r.axle.covers a = true ∧ r.kind = k ∧ v = r.value := by
  simp only [ceilings, List.mem_map, List.mem_filter, Bool.and_eq_true, decide_eq_true_eq]
  constructor
  · rintro ⟨r, ⟨hr, hk, hc⟩, rfl⟩
    exact ⟨r, hr, hc, hk, rfl⟩
  · rintro ⟨r, hr, hc, hk, rfl⟩
    exact ⟨r, ⟨hr, hk, hc⟩, rfl⟩

/-- A clip changes a torque exactly when it lies outside the axle's bounds (R19). -/
theorem PassCopy.clip_ne_iff (p : PassCopy) (a : Axle) (t : Int) :
    p.clip a t ≠ t ↔ t < -(p.regenBound a : Int) ∨ (p.driveBound a : Int) < t := by
  unfold PassCopy.clip clampInt
  split_ifs <;> omega

/-- The rate bound is no greater than RATE_LIMIT, nor than any ceiling on the axle (R21, R70). -/
theorem PassCopy.rate_le (p : PassCopy) (a : Axle) :
    p.rate a ≤ p.config.val .rateLimit ∧
      ∀ r ∈ p.limits, r.kind = .rateCeil → r.axle.covers a = true → p.rate a ≤ r.value := by
  exact ⟨smallest_le_first _ _, fun r hr hk hc => smallest_le_mem _ (mem_ceilings.2 ⟨r, hr, hc, hk, rfl⟩)⟩

/-- Stage 9 grows a magnitude by no more than the rate bound and never crosses zero (R22 to R24). -/
theorem stage9_spec (prev target rate : Int) (hold : Nat) (c : AxleCarry) (hr : 0 ≤ rate) :
    |(stage9 prev target rate hold c).1| ≤ |prev| + rate ∧
      (0 < prev → 0 ≤ (stage9 prev target rate hold c).1) ∧
      (prev < 0 → (stage9 prev target rate hold c).1 ≤ 0) := by
  have m0 := moveToward_spec (v := prev) (target := 0) hr
  have m1 := moveToward_spec (v := 0) (target := target) hr
  have m2 := moveToward_spec (v := prev) (target := target) hr
  have hs := signOf_eq target
  have hp := signOf_eq prev
  have ha : ∀ x : Int, |x| ≤ |prev| + rate ↔ x ≤ |prev| + rate ∧ -x ≤ |prev| + rate := by
    intro x; rw [abs_le]; omega
  unfold stage9
  simp only [abs_eq_max_neg] at *
  split_ifs with h1 h2 h3 h4
  · dsimp only; omega
  · dsimp only; omega
  · dsimp only; omega
  all_goals
    dsimp only
    by_cases e : signOf target = signOf prev
    · cases g : signOf prev <;> simp only [g, reduceCtorEq, true_iff, false_iff, e] at hs hp <;> omega
    · have : prev = 0 := by by_contra hne; exact h1 ⟨hne, .inr e⟩
      subst this
      omega

end Sys2Proof.Machine
end

