-- ==== Sys2Proof/Laws/Tick.lean ====
section
/-! SUPPORT. What one period of CLK_IN can do to the queue. -/

namespace Sys2Proof.Machine

/-- Scattering the events changes their order alone (log 3). -/
theorem scatter_perm (k : Nat) (es : List Instr) : (scatter k es).Perm es := by
  induction es generalizing k with
  | nil => exact List.Perm.refl _
  | cons e es ih =>
    have h := ih (k + 1)
    unfold scatter
    split
    · rename_i e'; rw [e'] at h; rw [← List.Perm.nil_eq h]
    · rename_i r rs e'
      rw [e'] at h
      exact (List.perm_insertIdx _ _ (Nat.le_of_lt_succ (Nat.mod_lt _ (by simp)))).trans (h.cons e)

theorem mem_due {c : Bool} {i j : Instr} : j ∈ due c i ↔ c = true ∧ j = i := by
  unfold due; cases c <;> simp

/-- The command that serves a frame is that of its kind, or BAD_KIND_FRAME. -/
theorem Frame.command_cases (f : Frame) : f.command = .badKindFrame ∨ ∃ k : Kind, f.command = k.command := by
  unfold Frame.command; split
  · exact .inr ⟨_, rfl⟩
  · exact .inl rfl

/-- The events that serve a frame. -/
theorem mem_serveEvents {s : State} {c : Instr} (h : c ∈ s.serveEvents) : c = .badKindFrame ∨ ∃ k : Kind, c = k.command := by
  unfold State.serveEvents at h
  split at h
  · simp at h
  · rw [List.mem_singleton] at h; subst h; exact Frame.command_cases _

/-- The events due do not depend on the queue or on the free-value counter. -/
@[simp] theorem State.dueEvents_queued (s t : State) (es last : List Instr) :
    s.dueEvents (t.queued es last) = s.dueEvents t := rfl

/-- The queue holds exactly the events that fell due. -/
theorem State.queued_pending (s : State) (es last : List Instr) : (s.queued es last).pending.Perm (es ++ last) :=
  (scatter_perm _ _).append_right _

/-- Scattering keeps the events (log 3). -/
theorem mem_scatter {k : Nat} {es : List Instr} {c : Instr} : c ∈ scatter k es ↔ c ∈ es := (scatter_perm k es).mem_iff

/-- A change of the TOFF_N pin races with nothing (R130). -/
theorem State.toffNPinChange_not_racing (s t : State) (h : Bool) : .toffNPinChange h ∉ s.racingEvents t := by
  have hs : Instr.toffNPinChange h ∉ t.serveEvents := fun e => by
    rcases mem_serveEvents e with e | ⟨k, e⟩
    · cases e
    · cases k <;> cases e
  have hl : ∀ l (u v : Liu) (r : Bool), Instr.toffNPinChange h ∉ linkEvents l u v r := by
    intro l u v r e
    simp only [linkEvents, List.mem_append, mem_due] at e
    rcases e with ((e | e) | e) | e
    · cases e.2
    · cases e.2
    · cases e.2
    · rcases f : (u.receiver.sample r).2 with _ | x
      · simp [f] at e
      · cases x <;> simp [f, RxEvent.command] at e
  simp [State.racingEvents, sensorEvents, mem_due, hs, hl]

/-- A receiver hands on a start bit, a byte or a break. -/
theorem RxEvent.command_cases (l : Link) (e : RxEvent) :
    e.command l = .startBitConfirmed l ∨ (∃ d m b, e.command l = .byteTaken l d m b) ∨ e.command l = .linkBreak l := by
  cases e
  · exact .inl rfl
  · exact .inr (.inl ⟨_, _, _, rfl⟩)
  · exact .inr (.inr rfl)

/-- A command that no link and no frame brings is due by the first part of the list alone. -/
theorem mem_dueEvents {s t : State} {c : Instr} (hk : c ≠ .badKindFrame ∧ ∀ k : Kind, c ≠ k.command)
    (hl : ∀ l, c ∉ linkEvents l (s.liuOf l) (t.liuOf l) (t.pins.rxd.get l)) :
    c ∈ s.dueEvents t ↔ c ∈
      due (!t.pins.resetN) .reset ++ due (t.act.filterDue false) .toffNFalling ++ due (t.act.filterDue true) .toffNRising ++
      sensorEvents .front (t.asuOf .front) t.pins.sensor.front ++ sensorEvents .rear (t.asuOf .rear) t.pins.sensor.rear ++
      due ((t.asuOf .front).historyExpired t.timeBase) (.edgeHistoryExpiry .front) ++
      due ((t.asuOf .rear).historyExpired t.timeBase) (.edgeHistoryExpiry .rear) ++
      due t.ale.completionDue .passCompletion ++ due (t.ptm.level != t.pins.syncIn) (.syncInEdge t.pins.syncIn) ++
      due (decide (t.ptm.oneShot = some t.timeBase)) .oneShotExpiry ++
      due (decide (t.ptm.timer = some t.timeBase)) .internalTimerExpiry ++ t.pinEvents := by
  have hs : c ∉ t.serveEvents := fun h => by
    rcases mem_serveEvents h with h | ⟨k, h⟩
    · exact hk.1 h
    · exact hk.2 k h
  have hf : c ∉ Link.all.flatMap (fun l => linkEvents l (s.liuOf l) (t.liuOf l) (t.pins.rxd.get l)) := by
    rw [List.mem_flatMap]; rintro ⟨l, _, h⟩; exact hl l h
  unfold State.dueEvents State.racingEvents
  simp only [List.mem_append, hs, hf, or_false]

/-- A link's events are its own. -/
theorem mem_linkEvents {l : Link} {u v : Liu} {rxd : Bool} {c : Instr} (h : c ∈ linkEvents l u v rxd) :
    (c = .gapExpiry l ∧ v.gapDone = true) ∨ (c = .frameTransmitEnd l ∧ v.tx.frameDone = true) ∨
      (c = .resetBreakEnd l ∧ v.tx.breakDone = true) ∨
      (∃ e, (u.receiver.sample rxd).2 = some e ∧ c = e.command l) := by
  simp only [linkEvents, List.mem_append, mem_due] at h
  rcases h with ((h | h) | h) | h
  · exact .inl ⟨h.2, h.1⟩
  · exact .inr (.inl ⟨h.2, h.1⟩)
  · exact .inr (.inr (.inl ⟨h.2, h.1⟩))
  · refine .inr (.inr (.inr ?_))
    cases e : (u.receiver.sample rxd).2 with
    | none => simp [e] at h
    | some x => exact ⟨x, rfl, by simpa [e] using h⟩

end Sys2Proof.Machine
end

