-- ==== Sys2Proof/Laws/Transmit.lean ====
section
/-! SUPPORT. The transmit side of a link: where a periodic frame goes in a queue, and the levels on TXD. -/

namespace Sys2Proof

namespace Machine

/-- With no unsent frame of its kind a periodic frame is the newest (R147). -/
theorem placePeriodic_of_none {f : Frame} {q : List Frame} (h : ∀ g ∈ q, g.kind ≠ f.kind) :
    placePeriodic f q = q ++ [f] := by
  induction q with
  | nil => rfl
  | cons g q ih =>
    rw [placePeriodic, if_neg (h g (by simp)), ih fun x hx => h x (by simp [hx])]
    rfl

/-- The first unsent frame of its kind is replaced in its position (R147). -/
theorem placePeriodic_of_first {f g : Frame} {front behind : List Frame} (hg : g.kind = f.kind)
    (h : ∀ x ∈ front, x.kind ≠ f.kind) : placePeriodic f (front ++ g :: behind) = front ++ f :: behind := by
  induction front with
  | nil => simp [placePeriodic, hg]
  | cons x front ih =>
    rw [List.cons_append, placePeriodic, if_neg (h x (by simp)), ih fun y hy => h y (by simp [hy])]
    rfl

/-- While a frame or a reset break is on the line nothing begins (R173). -/
theorem Liu.startNext_of_busy {u : Liu} (h : u.tx ≠ .idle) : u.startNext = u := by
  unfold Liu.startNext
  split
  · contradiction
  · rfl

/-- A sending transmitter is high from the end of its last stop bit on, and the line form of the byte and
the bit it has reached before that (R164). -/
theorem Transmitter.level_sending (f : Frame) (n : Nat) : (Transmitter.sending f n).level =
    (decide (f.bytes.length * byteClocks ≤ n) ||
      lineBit (f.bytes.getD (n / byteClocks) 0) (n / byteClocks = 0) (n % byteClocks / bitClocks)) := by
  rw [Frame.bytes_length]; rfl

end Machine
end Sys2Proof
end

