-- ==== Sys2Proof/Tests/Slice0.lean ====
section
/-! SUPPORT. Tests: the worked figures and examples of spec/, and, for each statement that has hypotheses,
a state and operands that meet them. The source of each expected result is named before it. -/

namespace Sys2Proof.Tests

set_option Elab.async false

open Sys2Proof Sys2Proof.Machine

/-! ### States to test on -/

/-- The state after RESET_END, with TOFF_N high, as the tests use it. -/
def up : State :=
  { State.reset with
      inReset := false, pins := { State.reset.pins with resetN := true, toffN := true }
      act := { State.reset.act with pinLevel := true, filtered := true } }

/-- A frame waits on a link, and nothing else anywhere. -/
def waits (l : Link) (f : Frame) (s : State) : State := s.modLiu l fun u => { u with rxQueue := [f] }

/-- A frame of a kind, tag 1. -/
def frameOf (k : Kind) (payload : List Byte) : Frame := { kind := k.code, tag := 1, payload := payload }

/-- The state after commands. -/
def after (cs : List Instr) (s : State) : State := (runAll cs s).getD s

/-- The oldest frame a link is sending, or would send. -/
def sent (s : State) (l : Link) : Option (List Byte) :=
  match (s.liuOf l).tx with
  | .sending f _ => some f.bytes
  | .idle        => none
  | .resetBreak _ => (s.liuOf l).txQueue.head?.map Frame.bytes

/-- The status and data bytes of the answer that waits. -/
def answerOf (s : State) (l : Link) : Option (List Byte) :=
  (s.liuOf l).txQueue.getLast?.map fun f => f.payload.drop 1

/-! ### Well-formedness and bytes -/

/-- Smoke: a payload of 17 bytes is no frame (09 §9.1). -/
theorem test_wellFormed_refuses_17_bytes : ¬ (frameOf .demand (List.replicate 17 0)).WellFormed := by decide

/-- A payload of 16 bytes is one (09 §9.1). -/
theorem test_wellFormed_admits_16_bytes : (frameOf .demand (List.replicate 16 0)).WellFormed := by decide

/-- R150's figures: ALLOC_ENABLE with tag 1. -/
theorem test_bytes_of_alloc_enable : (frameOf .allocEnable []).bytes = [92, 0, 164] := by decide

/-- R150's figures: the answer to it, sum 128. -/
theorem test_allocEnable_answered :
    sent (after [.allocEnable] (waits .vsc (frameOf .allocEnable []) up)) .vsc = some [96, 3, 28, 0, 1, 128] := by
  decide +kernel

/-- A wrong check byte, a length of 17 and a missing byte spell no frame (R150). -/
theorem test_ofBytes_refuses :
    Frame.ofBytes [92, 0, 165] = none ∧ Frame.ofBytes [92, 17, 147] = none ∧ Frame.ofBytes [92, 1, 163] = none := by
  decide

/-! ### The allocation pass (chapter 1's two examples) -/

/-- What chapter 1's first example takes at its start. -/
def slipCopy : PassCopy :=
  { config := ConfigSet.reset, allocState := .run
    policy := { share := 350, slipTarget := 60, gain := 25, transferCap := 4000 }
    mapResult := { hit := true, set := 5, way := 1 }
    image :=
      { demand := { fields := { demand := 9000, mode := 2, trailer := true, mass := 780, grade := 120 }, age := 1, fresh := true }
        envelope :=
          { front := { fields := { drive := 5000, regen := 3000, motorSpeed := 0, ready := true }, age := 1, fresh := true }
            rear := { fields := { drive := 8000, regen := 3000, motorSpeed := 0, ready := true }, age := 1, fresh := true } }
        reference := { fields := { magnitude := 480, direction := .forward, valid := true }, age := 1, fresh := true } }
    limits := [{ owner := .sbc, tag := 2, axle := .rear, kind := .driveCeil, value := 4000, lifetime := 3, remaining := 3 }]
    latched :=
      { front := { speed := 486, state := .sensor, health := .good }, rear := { speed := 552, state := .sensor, health := .good } }
    carried :=
      { demand := 9000, share := 360
        axle := { front := { lastSign := .positive, holdActive := false, holdCounter := 0 }
                  rear := { lastSign := .positive, holdActive := false, holdCounter := 0 } } }
    prev := { front := 4700, rear := 4000 } }

/-- Stage 3's key of the example: set 5, bands 5, 5, 0. -/
theorem test_key_of_example :
    passKey slipCopy.image slipCopy.latched = { set := 5, load := 5, grade := 5, speed := 0 } := by decide

/-- Stages 5 to 8 of the example. -/
theorem test_stages_of_example :
    slipCopy.base = { front := 3150, rear := 5850 } ∧ slipCopy.slip .front = 12 ∧ slipCopy.slip .rear = 150 ∧
      slipCopy.cut .rear = 2250 ∧ slipCopy.afterSlip .front = 5400 ∧ slipCopy.afterSlip .rear = 3600 ∧
      slipCopy.target .front = 5000 ∧ slipCopy.target .rear = 3600 := by decide +kernel

/-- The published record of the example. -/
theorem test_record_of_example :
    let p := slipCopy.publish false
    p.torque = { front := 5000, rear := 3600 } ∧ p.shortfall = 400 ∧ p.demand = 9000 ∧ p.share = 350 ∧
      p.slip = { front := 12, rear := 150 } ∧
      p.flags = { front := { slipCut := false, bound := true, hold := false, envStale := false }
                  rear := { slipCut := true, bound := false, hold := false, envStale := false } } ∧
      p.noRef = false ∧ p.mapMiss = false := by decide +kernel

/-- Chapter 1's second example: seven passes of a reversal. -/
theorem test_reversal_of_example :
    (stage9Run 3 600 { lastSign := .positive, holdActive := false, holdCounter := 0 } (List.replicate 7 (-600, 400))).1 =
      [200, 0, 0, 0, 0, -400, -600] := by decide

/-- The same example, the demand turning back to +300 in pass 4. -/
theorem test_hold_cancelled :
    (stage9Run 3 600 { lastSign := .positive, holdActive := false, holdCounter := 0 }
      [(-600, 400), (-600, 400), (-600, 400), (300, 400)]) =
      ([200, 0, 0, 300], { lastSign := .positive, holdActive := false, holdCounter := 2 }) := by decide

/-- R12's figures: −7001 at 333 ‰. -/
theorem test_split_of_odd_demand :
    ({ slipCopy with image := { slipCopy.image with demand := { slipCopy.image.demand with
         fields := { slipCopy.image.demand.fields with demand := -7001 } } }
                     carried := { slipCopy.carried with share := 333 }
                     policy := { slipCopy.policy with share := 333 } } : PassCopy).base =
      { front := -2331, rear := -4670 } := by decide

/-- R26's figure: a previous +5000 under a drive bound of 3000 gives 3000. -/
theorem test_clip_of_shrunk_bound :
    ({ slipCopy with prev := { front := 5000, rear := 0 }
                     limits := [{ owner := .vsc, tag := 0, axle := .front, kind := .driveCeil, value := 3000
                                  lifetime := 0, remaining := 0 }] } : PassCopy).clipped9 .front = 3000 := by
  decide +kernel

/-- PASS_COMPLETION publishes the example's record and hands the front inverter 5000. -/
theorem test_completion_publishes :
    let s := after [.passCompletion] { up with
      act := { up.act with state := .run }
      ale := { up.ale with pass := some { copy := slipCopy, toffTaken := false, clocks := 0, latency := 0 } } }
    s.ale.published.torque = { front := 5000, rear := 3600 } ∧ s.ale.pass = none ∧
      (s.liuOf .fdi).txQueue.map Frame.payload = [[136, 19, 0, 16]] := by decide +kernel

/-- PASS_COMPLETION of a pass that took STANDBY publishes zeros with last signs NONE (R28). -/
theorem test_completion_in_standby :
    let s := after [.passCompletion] { up with ale := { up.ale with
      pass := some { copy := { slipCopy with allocState := .standby }, toffTaken := false, clocks := 0, latency := 0 } } }
    s.ale.published.torque = { front := 0, rear := 0 } ∧ s.ale.carried.axle.front.lastSign = .none ∧
      s.ale.carried.share = 350 := by decide +kernel

/-! ### The Split Map (chapter 2's examples) -/

/-- A key of three fields. -/
def keyOf (load grade speed : KeyField) : EntryKey := { load := load, grade := grade, speed := speed }

/-- An entry of a share. -/
def entryOf (valid : Bool) (k : EntryKey) (share : Nat) : Entry :=
  { valid := valid, content := { key := k, policy := { share := share, slipTarget := 70, gain := 30, transferCap := 5000 } } }

/-- Set 8 of R35's examples. -/
def set8 : MapSet :=
  { ways := #v[entryOf true (keyOf .any .any .any) 500, entryOf true (keyOf (.band 3) .any .any) 450,
               entryOf true (keyOf .any (.band 6) .any) 380, entryOf true (keyOf (.band 3) (.band 6) (.band 2)) 300]
    lru := [2, 3, 0, 1] }

/-- R35 to R37's examples: the ways selected, and the order after the three passes. -/
theorem test_lookup_of_set_8 :
    set8.select { set := 8, load := 3, grade := 6, speed := 2 } = some 3 ∧
      set8.select { set := 8, load := 3, grade := 6, speed := 5 } = some 1 ∧
      set8.select { set := 8, load := 4, grade := 4, speed := 0 } = some 0 ∧
      moveFront 0 (moveFront 1 (moveFront 3 [2, 3, 0, 1])) = [0, 1, 3, 2] := by decide +kernel

/-- Set 12 of the MAP_COMMIT example. -/
def set12 : MapSet :=
  { ways := #v[entryOf true (keyOf .any .any .any) 400, entryOf true (keyOf (.band 2) (.band 3) .any) 360,
               entryOf false (keyOf (.band 0) (.band 0) (.band 0)) 0, entryOf true (keyOf (.band 5) (.band 5) (.band 1)) 300]
    lru := [3, 0, 1, 2] }

/-- The content the example stages. -/
def staged420 : Content := (entryOf true (keyOf (.band 2) (.band 3) .any) 420).content

/-- R45's first example: AUTO takes way 2 and evicts way 1. -/
theorem test_auto_write_evicts :
    let m := set12.applyWrite staged420 .auto
    m.lru = [2, 3, 0, 1] ∧ m.ways.toList.map Entry.valid = [true, false, true, true] ∧ (m.entry 2).content = staged420 := by
  decide +kernel

/-- R45's second example: AUTO in a full set takes the last way of the order. -/
theorem test_auto_write_in_full_set :
    let m : MapSet :=
      { ways := #v[entryOf true (keyOf .any .any .any) 1, entryOf true (keyOf (.band 1) .any .any) 2,
                   entryOf true (keyOf (.band 2) .any .any) 3, entryOf true (keyOf (.band 4) .any .any) 4]
        lru := [1, 3, 0, 2] }
    let r := m.applyWrite (entryOf true (keyOf (.band 4) .any .any) 9).content .auto
    r.lru = [2, 1, 0, 3] ∧ r.ways.toList.map Entry.valid = [true, true, true, false] := by decide +kernel

/-- The MAP_COMMIT example's state: set 12 as tabled, the content staged. -/
def mapUp : State :=
  { up with map := { (up.map.putSet 12 set12) with stage := staged420, staged := true } }

/-- The MAP_COMMIT example: complement 60 is wrong, 59 right. -/
theorem test_mapCommit :
    let bad := after [.mapCommit] (waits .vsc (frameOf .mapCommit [12, 4, 60]) mapUp)
    let good := after [.mapCommit] (waits .vsc (frameOf .mapCommit [12, 4, 59]) mapUp)
    answerOf bad .vsc = some [8] ∧ bad.map.staged = false ∧ bad.map.slot = .empty ∧
      answerOf good .vsc = some [0] ∧ good.map.slot = .write staged420 12 .auto ∧ good.map.staged = false := by
  decide +kernel

/-- The MAP_STAGE examples: CLAMPED, and BAD_FIELD for a key byte of 9. -/
theorem test_mapStage :
    let s := after [.mapStage] (waits .vsc (frameOf .mapStage [2, 3, 255, 176, 4, 70, 30, 32, 78]) up)
    let t := after [.mapStage] (waits .vsc (frameOf .mapStage [2, 9, 255, 0, 0, 0, 0, 0, 0]) up)
    answerOf s .vsc = some [9] ∧ s.map.stage.policy = { share := 1000, slipTarget := 70, gain := 30, transferCap := 16000 } ∧
      s.map.stage.key = keyOf (.band 2) (.band 3) .any ∧ answerOf t .vsc = some [3] ∧ t.map.staged = false := by
  decide +kernel

/-- MAP_READ of the example's set 12, way 1: order 3, 0, 1, 2 and ways 0, 1, 3 valid (R51). -/
theorem test_mapRead :
    answerOf (after [.mapRead] (waits .sbc (frameOf .mapRead [12, 1]) mapUp)) .sbc =
      some [0, 1, 2, 3, 255, 104, 1, 70, 30, 136, 19, 0b10010011, 0b1011] := by decide +kernel

/-- MAP_PROBE of the example's set 12 at bands 2, 3, 6, and a miss elsewhere on the reset defaults (R52, R134). -/
theorem test_mapProbe :
    answerOf (after [.mapProbe] (waits .fdi (frameOf .mapProbe [6, 0, 2, 3, 6]) mapUp)) .fdi =
        some [0, 1, 1, 104, 1, 70, 30, 136, 19] ∧
      answerOf (after [.mapProbe] (waits .fdi (frameOf .mapProbe [6, 1, 2, 3, 6]) mapUp)) .fdi =
        some [0, 0, 0, 144, 1, 80, 20, 184, 11] := by decide +kernel

/-- MAP_FLUSH fills the slot; a second one is busy (R50). -/
theorem test_mapFlush :
    let s := after [.mapFlush] (waits .vsc (frameOf .mapFlush []) up)
    s.map.slot = .flush ∧ answerOf (after [.mapFlush] (waits .vsc (frameOf .mapFlush []) s)) .vsc = some [7] := by
  decide +kernel

/-! ### The Limit Table (chapter 3's examples) -/

/-- The table after step 7 of the posting example. -/
def table7 : List Limit :=
  [{ owner := .fdi, tag := 1, axle := .front, kind := .noTransfer, value := 0, lifetime := 20, remaining := 20 },
   { owner := .vsc, tag := 0, axle := .both, kind := .rateCeil, value := 10, lifetime := 0, remaining := 0 },
   { owner := .sbc, tag := 2, axle := .rear, kind := .driveCeil, value := 3500, lifetime := 3, remaining := 3 }]

/-- The posting example's steps 1 to 5: the answers' counts and the table. -/
theorem test_limitPost_example :
    let post := fun (l : Link) (p : List Byte) (s : State) => after [.limitPost] (waits l (frameOf .limitPost p) s)
    let s1 := post .sbc [2, 1, 0, 160, 15, 3] up
    let s2 := post .fdi [1, 0, 3, 244, 1, 20] s1
    let s3 := post .rdi [0, 0, 0, 184, 11, 10] s2
    let s4 := post .vsc [0, 2, 2, 5, 0, 0] s3
    let s5 := post .sbc [2, 1, 0, 172, 13, 3] { s4 with liu := up.liu }
    answerOf s1 .sbc = some [0, 160, 15, 1, 1] ∧ answerOf s2 .fdi = some [0, 0, 0, 1, 2] ∧ answerOf s3 .rdi = some [2] ∧
      answerOf s4 .vsc = some [9, 10, 0, 1, 3] ∧ answerOf s5 .sbc = some [0, 172, 13, 1, 3] ∧ s5.limits = table7 := by
  decide +kernel

/-- The posting example's steps 6 and 7: an inverter's lifetime of 0, and an axle that is not its own. -/
theorem test_limitPost_refused :
    let s := { up with limits := table7 }
    let s6 := after [.limitPost] (waits .fdi (frameOf .limitPost [3, 0, 0, 112, 23, 0]) s)
    let s7 := after [.limitPost] (waits .fdi (frameOf .limitPost [1, 2, 3, 0, 0, 20]) s)
    answerOf s6 .fdi = some [3] ∧ answerOf s7 .fdi = some [2] ∧ s6.limits = table7 ∧ s7.limits = table7 := by
  decide +kernel

/-- The lease example: three takes see the record, the third removes it. -/
theorem test_lease_of_three :
    [0, 1, 2, 3].map (fun n => (consumeLimits^[n] table7).map Limit.remaining) =
      [[20, 0, 3], [19, 0, 2], [18, 0, 1], [17, 0]] := by decide

/-- LIMIT_WITHDRAW of the SBC's record leaves two, none its own (R65). -/
theorem test_limitWithdraw :
    let s := after [.limitWithdraw] (waits .sbc (frameOf .limitWithdraw [2]) { up with limits := table7 })
    answerOf s .sbc = some [0, 0, 2] ∧ s.limits = table7.take 2 := by decide +kernel

/-- The walk example: position 1, and NOT_FOUND with the count. -/
theorem test_limitList :
    let ask := fun i : Byte => answerOf (after [.limitList] (waits .sbc (frameOf .limitList [i]) { up with limits := table7 })) .sbc
    ask 1 = some [0, 3, 0, 0, 2, 2, 10, 0, 0, 2] ∧ ask 3 = some [6, 3] := by decide +kernel

/-- The mixed table's constraints (chapter 3's last example). -/
theorem test_mixed_table :
    let rec1 := fun (o : Link) (t : Nat) (a : LimitAxle) (k : LimitKind) (v n : Nat) =>
      ({ owner := o, tag := t, axle := a, kind := k, value := v, lifetime := n, remaining := n } : Limit)
    let p : PassCopy := { slipCopy with limits :=
      [rec1 .fdi 1 .front .noTransfer 0 12, rec1 .vsc 0 .both .rateCeil 300 0, rec1 .sbc 2 .rear .driveCeil 4000 2,
       rec1 .sbc 5 .both .driveCeil 6000 5, rec1 .sbc 6 .rear .regenCeil 1500 5] }
    p.driveBound .front = 5000 ∧ p.driveBound .rear = 4000 ∧ p.regenBound .front = 3000 ∧ p.regenBound .rear = 1500 ∧
      p.rate .front = 300 ∧ p.rate .rear = 300 ∧ p.mayReceive .front = false ∧ p.mayReceive .rear = true := by
  decide +kernel

/-! ### Axle speed (chapter 4's figures) -/

/-- A history of five forward edges with this span, newest first, the newest at 100000. -/
def edges (span : BitVec 32) : List EdgeEntry :=
  [100000, 99999, 99998, 99997, 100000 - span].map fun t => { time := t, dir := .forward }

/-- The worked figures of EDGE: +552, +486, +416. -/
theorem test_edge_figures :
    ({ Asu.reset with history := edges 9057, windowStart := 100200 } : Asu).windowSpeed 192 101200 = 552 ∧
      ({ Asu.reset with history := edges 10287, windowStart := 99400 } : Asu).windowSpeed 192 100400 = 486 ∧
      ({ Asu.reset with history := edges 9057, windowStart := 111000 } : Asu).windowSpeed 192 112000 = 416 := by
  decide +kernel

/-- R79, R82: the newest edge 65535 µs old reads 76 at CPR 192, as R82 figures; one older reads STOPPED. -/
theorem test_edge_of_the_oldest :
    ({ Asu.reset with history := edges 4, windowStart := 165000 } : Asu).windowSpeed 192 165535 = 76 ∧
      ({ Asu.reset with history := edges 4, windowStart := 165000 } : Asu).windowSpeed 192 165536 = 0 := by decide +kernel

/-- The worked figures of COUNT, +50000 and −15000; and R89's substitute, 552. -/
theorem test_count_figures :
    ({ Asu.reset with windowCount := 40 } : Asu).windowSpeed 192 1000 = 50000 ∧
      ({ Asu.reset with windowCount := -24 } : Asu).windowSpeed 192 2000 = -15000 ∧ substituteSpeed 1242 9000 = 552 := by
  decide +kernel

/-- COUNTED_EDGE: from (0,0) a rise of A is FORWARD, of B REVERSE (R75). -/
theorem test_countedEdge :
    let f := (after [.countedEdge .front .a] up).asu.front
    let r := (after [.countedEdge .front .b] up).asu.front
    f.windowCount = 1 ∧ f.lastDir = some .forward ∧ f.levelA = true ∧ f.levelB = false ∧
      r.windowCount = -1 ∧ r.lastDir = some .reverse ∧ (after [.countedEdge .front .a] up).asu.rear = up.asu.rear := by
  decide +kernel

/-- COUNTED_EDGE: a change of direction empties the history and flags it (R77). -/
theorem test_countedEdge_turns :
    let u := (after [.countedEdge .rear .a, .countedEdge .rear .b, .countedEdge .rear .b] up).asu.rear
    u.history = [{ time := 0, dir := .reverse }] ∧ u.dirChanged = true ∧ u.windowCount = 1 := by decide +kernel

/-- PHASE_ERROR marks the window and moves no count (R76). -/
theorem test_phaseError :
    let u := (after [.countedEdge .rear .a, .phaseError .rear] up).asu.rear
    u.phaseError = true ∧ u.history = [] ∧ u.windowCount = 1 ∧ u.levelA = false ∧ u.levelB = true := by decide +kernel

/-- Z_RISING_EDGE: the first arms, a count of CPR is good, one 3 away is bad at a tolerance of 2 (R83, R84). -/
theorem test_zRisingEdge :
    let arm := after [.zRisingEdge .front] up
    let seen := fun n : Int => (after [.zRisingEdge .front] (arm.modAsu .front fun u => { u with sinceIndex := n })).asu.front
    arm.asu.front.armed = true ∧ arm.asu.front.goodRun = 0 ∧ (seen (-190)).goodRun = 1 ∧ (seen 195).faultCount = 1 ∧
      (seen 195).health = .suspect := by decide +kernel

/-- EDGE_HISTORY_EXPIRY at 65536 µs, not at 65535 (R77). -/
theorem test_edgeHistoryExpiry :
    let s := fun t : Time => { (after [.countedEdge .front .a] up) with timeBase := t }
    (after [.edgeHistoryExpiry .front] (s 65536)).asu.front.history = [] ∧
      (after [.edgeHistoryExpiry .front] (s 65535)).asu.front.history.length = 1 := by decide +kernel

/-! ### The Period Timer (chapter 6) -/

/-- A pass in flight, taken at the example's values. -/
def flying : Pass := { copy := slipCopy, toffTaken := false, clocks := 0, latency := 1600 }

/-- SYNC_IN_EDGE: the first rise is qualified, one 19 µs later is discarded, a fall is not selected (R110, R111). -/
theorem test_syncInEdge :
    let s := after [.syncInEdge true] { up with timeBase := 500 }
    s.ptm.dividerCount = 1 ∧ s.ptm.oneShot = some 2500 ∧ s.ptm.reacquire = 0 ∧ s.ptm.mode = .internal ∧
      (after [.syncInEdge true] { s with timeBase := 519 }).ptm.dividerCount = 1 ∧
      (after [.syncInEdge true] { s with timeBase := 520 }).ptm.reacquire = 1 ∧
      (after [.syncInEdge false] { s with timeBase := 900 }).ptm = { s.ptm with level := false } := by decide +kernel

/-- SYNC_IN_EDGE: the completion at a reacquire count of 16 is a boundary and returns to SYNCED (R117). -/
theorem test_syncInEdge_reacquires :
    let p := { up.ptm with dividerCount := 7, reacquire := 15, oneShot := some 5000, lastQualified := some 4000 }
    let s := after [.syncInEdge true] { up with timeBase := 4100, ptm := p }
    s.ptm.mode = .synced ∧ s.ptm.timer = none ∧ s.ptm.reacquire = 0 ∧ s.ptm.periodCount = 1 ∧ s.ptm.oneShot = some 6100 ∧
      s.ptm.lastBoundary = 4100 ∧ s.ale.pass.isSome = true := by decide +kernel

/-- INTERNAL_TIMER_EXPIRY: taken with no pass in flight, skipped with one (R115, R118, R119). -/
theorem test_internalTimerExpiry :
    let s := after [.internalTimerExpiry] { up with timeBase := 1000 }
    let t := after [.internalTimerExpiry] { up with timeBase := 1000, ale := { up.ale with pass := some flying } }
    s.ptm.timer = some 2000 ∧ s.ptm.periodCount = 1 ∧ s.ptm.skipped = false ∧ s.ale.pass.isSome = true ∧
      t.ptm.timer = some 2000 ∧ t.ptm.periodCount = 0 ∧ t.ptm.skipped = true ∧ t.ptm.lastBoundary = 1000 := by
  decide +kernel

/-- ONE_SHOT_EXPIRY in SYNCED: the first internal boundary stands INTERNAL_PERIOD after the last one (R114). -/
theorem test_oneShotExpiry :
    let p := { up.ptm with mode := .synced, timer := none, oneShot := some 9000, lastBoundary := 8500 }
    let s := after [.oneShotExpiry] { up with timeBase := 9000, ptm := p }
    let t := after [.oneShotExpiry] { up with timeBase := 9000, ptm := { p with lastBoundary := 7000 } }
    s.ptm.mode = .internal ∧ s.ptm.timer = some 9500 ∧ s.ptm.oneShot = none ∧ s.ale.pass = none ∧
      t.ptm.timer = some 10000 ∧ t.ale.pass.isSome = true := by decide +kernel

/-! ### Allocator Control (chapter 7) -/

/-- CONFIG_WRITE in RUN (the example's steps 1 and 3) and in STANDBY with a value pending. -/
theorem test_configWrite :
    let s1 := after [.configWrite] (waits .vsc (frameOf .configWrite [4, 136, 19]) { up with act := { up.act with state := .run } })
    let s2 := after [.configWrite] (waits .vsc (frameOf .configWrite [5, 20, 0]) { up with act := up.act.putPending .shareSlew (some 50) })
    answerOf s1 .vsc = some [9, 4, 160, 15, 1] ∧ s1.act.pendingOf .rateLimit = some 4000 ∧ s1.act.active.val .rateLimit = 400 ∧
      answerOf s2 .vsc = some [0, 5, 20, 0, 0] ∧ s2.act.active.val .shareSlew = 20 ∧ s2.act.pendingOf .shareSlew = none := by
  decide +kernel

/-- CONFIG_READ (the example's step 2), and an index above 22 (R139). -/
theorem test_configRead :
    let s := { up with act := up.act.putPending .rateLimit (some 4000) }
    answerOf (after [.configRead] (waits .rdi (frameOf .configRead [4]) s)) .rdi = some [0, 4, 144, 1, 160, 15, 1] ∧
      answerOf (after [.configRead] (waits .rdi (frameOf .configRead [23]) s)) .rdi = some [3] := by decide +kernel

/-- ALLOC_ENABLE is refused while the filtered level is low, with the state (R126). -/
theorem test_allocEnable_refused :
    answerOf (after [.allocEnable] (waits .vsc (frameOf .allocEnable [])
      { up with act := { up.act with filtered := false, state := .forcedOff } })) .vsc = some [4, 3] := by decide +kernel

/-- ALLOC_DISABLE takes RUN to RAMPDOWN and FORCED_OFF to STANDBY (R127). -/
theorem test_allocDisable :
    let go := fun x : AllocState => after [.allocDisable] (waits .vsc (frameOf .allocDisable []) (up.setAlloc x))
    (go .run).act.state = .rampdown ∧ answerOf (go .run) .vsc = some [0, 2] ∧ (go .forcedOff).act.state = .standby := by
  decide +kernel

/-- TOFF_N_PIN_CHANGE restarts the filter; TOFF_N_RISING changes the filtered level alone (R130, R132). -/
theorem test_toffN_pin_and_rising :
    let s := after [.toffNPinChange false] { up with act := { up.act with held := 200 } }
    let t := { up with act := { up.act with filtered := false, state := .forcedOff, held := 200 } }
    s.act.pinLevel = false ∧ s.act.held = 0 ∧ s.act.filtered = true ∧ s.act.state = .standby ∧
      after [.toffNRising] t = { t with act := { t.act with filtered := true } } := by decide +kernel

/-- TOFF_N_FALLING on the busy front link of chapter 8: the waiting +1800 is replaced in its place by 0 with OFF. -/
theorem test_toffNFalling :
    let other : Frame := { kind := Frame.responseCode, tag := 0, payload := [0x0A, 0] }
    let old : Frame := { kind := Frame.axleCommandCode, tag := 0, payload := [8, 7, 37, 0] }
    let s := after [.toffNFalling]
      ({ up with act := { up.act with pinLevel := false, held := 200, state := .run }
                 ptm := { up.ptm with periodCount := 37 } }.modLiu .fdi fun u =>
        { u with tx := .sending other 100, txQueue := [old, other] })
    s.act.state = .forcedOff ∧
      (s.liuOf .fdi).txQueue = [{ kind := Frame.axleCommandCode, tag := 0, payload := [0, 0, 37, 1] }, other] := by decide +kernel

/-- STATUS_QUERY after the first example's completion (R149). -/
theorem test_statusQuery :
    let s := { up with ale := { up.ale with published := slipCopy.publish false }, act := { up.act with state := .run } }
    answerOf (after [.statusQuery] (waits .sbc (frameOf .statusQuery []) s)) .sbc =
      some [0, 1, 136, 19, 16, 14, 40, 35, 144, 1, 94, 1, 0, 0, 0] := by decide +kernel

/-! ### The Input Image (chapter 5) -/

/-- DEMAND: +20000 is kept as +16000 and latches INPUT_CLAMPED; a mode of 8 is refused (R95, R99). -/
theorem test_demand :
    let s := after [.demand] (waits .vsc (frameOf .demand [32, 78, 2, 1, 12, 3, 120, 0]) up)
    let t := after [.demand] (waits .vsc (frameOf .demand [0, 0, 8, 0, 0, 0, 0, 0]) up)
    s.image.demand = { fields := { demand := 16000, mode := 2, trailer := true, mass := 780, grade := 120 }, age := 0 } ∧
      s.image.inputClamped = true ∧ (s.liuOf .vsc).txQueue = [] ∧ answerOf t .vsc = some [3] ∧ t.image = up.image := by
  decide +kernel

/-- ENVELOPE from the rear inverter: motor speed 1100 rpm has low byte 76 (chapter 10's example). -/
theorem test_envelope :
    let s := after [.envelope] (waits .rdi (frameOf .envelope [64, 31, 184, 11, 76, 4, 1]) up)
    s.image.envelope.rear =
        { fields := { drive := 8000, regen := 3000, motorSpeed := 1100, ready := true }, age := 0 } ∧
      s.image.envelope.front = up.image.envelope.front ∧ (s.liuOf .rdi).txQueue = [] := by decide +kernel

/-- REFERENCE in reverse; and from the VSC it is not permitted (R97, R157). -/
theorem test_reference :
    let s := after [.reference] (waits .sbc (frameOf .reference [224, 1, 1, 1]) up)
    s.image.reference = { fields := { magnitude := 480, direction := .reverse, valid := true }, age := 0 } ∧
      answerOf (after [.reference] (waits .vsc (frameOf .reference [224, 1, 1, 1]) up)) .vsc = some [2] := by decide +kernel

/-- BAD_KIND_FRAME: an AXLE_COMMAND sent by an inverter (R157). -/
theorem test_badKindFrame :
    answerOf (after [.badKindFrame] (waits .fdi { kind := 0x21, tag := 0, payload := [] } up)) .fdi = some [1] := by
  decide +kernel

/-- The arbiter's example: links 1 (empty) and 2 (held) are passed over, link 3 is served, then link 0 (R154). -/
theorem test_arbiter_example :
    let answerFrame : Frame := { kind := Frame.responseCode, tag := 0, payload := [0, 0] }
    let s := ({ (waits .vsc (frameOf .configWrite [4, 88, 2]) (waits .rdi (frameOf .limitPost [0, 0, 0, 0, 0, 1])
      (waits .sbc (frameOf .reference [0, 0, 0, 0]) up))) with pointer := .fdi }).modLiu .rdi fun u =>
        { u with txQueue := [answerFrame, answerFrame] }
    let t := after [.reference] s
    s.served = some (.sbc, frameOf .reference [0, 0, 0, 0]) ∧ t.pointer = .vsc ∧
      t.served = some (.vsc, frameOf .configWrite [4, 88, 2]) := by decide +kernel

/-! ### The links (chapter 10) -/

/-- The FDI link as chapter 10's example begins, after five good bytes of the ENVELOPE. -/
def noisy : State :=
  up.modLiu .fdi fun u => { u with framer := .inFrame, assembly := [2, 7, 0, 0, 0], gap := some 0, badCount := 6 }

/-- BYTE_TAKEN: the marker set by noise ends the frame and begins another, and 76 ends that one. -/
theorem test_byteTaken_noise :
    let u := (after [.byteTaken .fdi 11 true false] noisy).liuOf .fdi
    let v := (after [.byteTaken .fdi 11 true false, .byteTaken .fdi 76 false false] noisy).liuOf .fdi
    u.assembly = [11] ∧ u.badCount = 7 ∧ u.faulted = false ∧ v.framer = .hunt ∧ v.assembly = [] ∧ v.badCount = 8 ∧
      v.faulted = true ∧ v.linkEvent = true := by decide +kernel

/-- BYTE_TAKEN: the check byte 164 completes ALLOC_ENABLE of R150, 165 does not. -/
theorem test_byteTaken_check :
    let s := up.modLiu .vsc fun u => { u with framer := .inFrame, assembly := [92, 0], gap := none, badCount := 5 }
    let u := (after [.byteTaken .vsc 164 false false] s).liuOf .vsc
    u.rxQueue = [frameOf .allocEnable []] ∧ u.badCount = 0 ∧ u.framer = .hunt ∧
      ((after [.byteTaken .vsc 165 false false] s).liuOf .vsc).badCount = 6 := by decide +kernel

/-- GAP_EXPIRY at 33 µs, and START_BIT_CONFIRMED before it (R169). -/
theorem test_gapExpiry :
    let s := noisy.modLiu .fdi fun u => { u with gap := some 1320 }
    ((after [.gapExpiry .fdi] s).liuOf .fdi).badCount = 7 ∧ ((after [.gapExpiry .fdi] s).liuOf .fdi).framer = .hunt ∧
      ((after [.startBitConfirmed .fdi, .gapExpiry .fdi] s).liuOf .fdi).badCount = 6 := by decide +kernel

/-- BREAK empties both queues, keeps the frame in transmission, and counts no bad frame (R172). -/
theorem test_linkBreak :
    let f := frameOf .statusQuery []
    let u := (after [.linkBreak .fdi] (noisy.modLiu .fdi fun u =>
      { u with rxQueue := [f], txQueue := [f], tx := .sending f 3, faulted := true })).liuOf .fdi
    u.rxQueue = [] ∧ u.txQueue = [] ∧ u.tx = .sending f 3 ∧ u.badCount = 0 ∧ u.faulted = true ∧ u.linkEvent = true ∧
      u.framer = .hunt := by decide +kernel

/-- FRAME_TRANSMIT_END: a flagged frame that begins clears the latch; a byte takes 11 µs (R173, R148, R164). -/
theorem test_frameTransmitEnd :
    let f := frameOf .statusQuery []
    let flagged : Frame := { kind := Frame.axleCommandCode, tag := 0, payload := [0, 0, 0, 64] }
    let s := fun n : Nat => up.modLiu .fdi fun u => { u with tx := .sending f n, txQueue := [flagged], linkEvent := true }
    let u := (after [.frameTransmitEnd .fdi] (s 1320)).liuOf .fdi
    u.tx = .sending flagged 0 ∧ u.linkEvent = false ∧ u.txQueue = [] ∧
      after [.frameTransmitEnd .fdi] (s 1319) = s 1319 := by decide +kernel

/-- RESET_BREAK_END at 33 µs; TXD is low for the first 22 µs of the break (R174). -/
theorem test_resetBreakEnd :
    let s := fun n : Nat => up.modLiu .sbc fun u => { u with tx := .resetBreak n }
    ((after [.resetBreakEnd .sbc] (s 1320)).liuOf .sbc).tx = .idle ∧ (s 879).txd .sbc = false ∧ (s 880).txd .sbc = true := by
  decide +kernel

/-- RESET abandons a pass; RESET_END takes the lines' levels and begins the break (R2, R123, R130, R174). -/
theorem test_reset_and_resetEnd :
    let s := after [.reset] { up with ale := { up.ale with pass := some flying }, act := { up.act with state := .run } }
    let t := after [.resetEnd] s
    s.ale.pass = none ∧ s.act.state = .standby ∧ s.inReset = true ∧ s.txd .vsc = true ∧ t.inReset = false ∧
      t.act.pinLevel = true ∧ t.act.filtered = false ∧ t.txd .vsc = false := by decide +kernel

/-- The receiver reads a byte back from its levels (R164): the header of R150's figure. -/
theorem test_receiver_reads_header :
    Receiver.resolve .waiting (byteLevels 92 true) = (.waiting, [.startBit, .byte 92 true false]) := by decide +kernel

/-- A low level of 22 µs is a break even where the line rises then; one period less is a byte with a stop-bit
error (R166). -/
theorem test_break_at_22_micros :
    Receiver.sample (.stopLow 879 (List.replicate 9 false)) true = (.waiting, some .lineBreak) ∧
      Receiver.sample (.stopLow 878 (List.replicate 9 false)) true = (.waiting, some (.byte 0 false true)) := by
  decide +kernel

/-- The length counts from the last falling edge, here that after data bit 0, and the bits before it stand
(R166). -/
theorem test_break_within_a_byte :
    Receiver.resolve .waiting ((byteLevels 1 false).take 80 ++ List.replicate 879 false ++ [true]) =
        (.waiting, [.startBit, .byte 1 false true]) ∧
      Receiver.resolve .waiting ((byteLevels 1 false).take 80 ++ List.replicate 880 false ++ [true]) =
        (.waiting, [.startBit, .lineBreak]) := by
  decide +kernel

/-- TXD rests high from the end of the last stop bit, before the end of the frame is taken (R164). -/
theorem test_txd_high_after_frame :
    ({ up with liu := { up.liu with vsc := { up.liu.vsc with tx := .sending (frameOf .allocEnable []) 1320 } } } : State).txd .vsc = true ∧
      ({ up with liu := { up.liu with vsc := { up.liu.vsc with tx := .sending (frameOf .allocEnable []) 880 } } } : State).txd .vsc = false := by
  decide +kernel

/-- R130: a pin that changes back in the very period in which it has held its level for 5 µs has had that level
taken: the falling comes first, the change of the pin last. A period earlier there is no falling. -/
theorem test_toffN_held_exactly_5_micros :
    let s := fun n => { up with act := { up.act with pinLevel := false, held := n } }
    (s 199).tick.pending = [.toffNFalling, .toffNPinChange true] ∧ (s 198).tick.pending = [.toffNPinChange true] := by
  decide +kernel

/-- No word spells a command, since the table gives its rows no bits. -/
theorem test_no_word_is_a_command : decodeTableWord 8 0 = none ∧ up.withFetchWord 8 0 = up := by decide +kernel

/-! ### Sound states -/

/-- The posting example's table is sound. -/
theorem table7_ok : LimitsOk table7 := by
  refine ⟨by decide, fun l => by cases l <;> decide, by decide, fun r hr => ?_⟩
  simp only [table7, List.mem_cons, List.not_mem_nil, or_false] at hr
  rcases hr with rfl | rfl | rfl <;> simp [Limit.Ok, LimitKind.valueOk]

/-- A map whose set 12 is the example's, with a write pending. -/
def pendingMap (choice : WayChoice) : SplitMap := { mapUp.map with slot := .write staged420 12 choice }

theorem pendingMap_ok (choice : WayChoice) : (pendingMap choice).Ok := by
  have h : ∀ n : Fin 16, (mapUp.map.set n).Ok := by decide +kernel
  refine ⟨h, show staged420.policy.InRange by decide, ?_⟩
  show staged420.policy.InRange
  decide

/-- A sound state in RUN with a pass in flight, limits, a map operation and a frame pending. -/
def busy : State :=
  { (waits .fdi (frameOf .envelope [64, 31, 184, 11, 76, 4, 1]) up) with
      ale := { carried := slipCopy.carried, published := { up.ale.published with torque := slipCopy.prev }
               pass := some flying }
      limits := table7, map := pendingMap .auto, act := { up.act with state := .run, held := 200 }
      pending := [.passCompletion] }

/-- The values of the reset configuration lie in their ranges, and none is pending. -/
theorem reset_config (q : Param) : (q.low ≤ ConfigSet.reset.val q ∧ ConfigSet.reset.val q ≤ q.high) ∧
    Act.reset.pendingOf q = none := by
  cases q <;> decide +kernel

theorem busy_ok : busy.Ok where
  map := pendingMap_ok .auto
  limits := table7_ok
  links := by
    intro l
    cases l <;> unfold Liu.Ok <;> decide +kernel
  config := by
    intro q
    refine ⟨(reset_config q).1, fun v hv => ?_⟩
    rw [show busy.act.pendingOf q = none from (reset_config q).2] at hv
    cases hv
  image := by unfold Image.Ok; decide +kernel
  sensors := by
    have h : Asu.reset.Ok := by
      unfold Asu.Ok
      refine ⟨by decide, by decide, by decide, by decide, ?_, by decide⟩
      show Asu.reset.faultCount = 0 ∧ Asu.reset.goodRun ≤ 16
      decide
    exact ⟨h, h⟩
  timer := by unfold Ptm.Ok; decide +kernel
  engine := by
    have c : slipCopy.carried.Ok := by unfold Carried.Ok; decide +kernel
    have t : CommandsOk slipCopy.prev := by unfold CommandsOk; decide +kernel
    refine ⟨c, ⟨t, by decide, by decide, by decide, by decide⟩, fun p hp => ?_⟩
    obtain rfl : flying = p := Option.some.inj hp
    exact ⟨⟨fun q => (reset_config q).1, by decide, by decide, by decide, c, t, by decide⟩, fun _ => ⟨rfl, rfl⟩⟩
  status := by decide
  filter := by decide
  clock := by decide
  off := fun h => absurd h (by decide)

/-! ### Witnesses: for each statement with hypotheses, what meets them, clause by clause -/

/-- A state whose arbiter serves a frame of a kind from a link. -/
def serving (k : Kind) (l : Link) (payload : List Byte) : State := waits l (frameOf k payload) up

/-- The frame of a kind waits on a link, is served, and passes the checks. -/
abbrev Ready (k : Kind) (l : Link) (payload : List Byte) (s : State) : Prop :=
  s.Serves l (frameOf k payload) ∧ (frameOf k payload).Passes k l

/-- A link's state changed in `up`. -/
def link (l : Link) (g : Liu → Liu) : State := up.modLiu l g

theorem witness_StepRunsFrontCommand :
    ({ up with pending := [.demand, .reset] } : State).pending = .demand :: [.reset] := rfl

theorem witness_IdleStepIsOneClockPeriod :
    (State.reset.pending = [] ∧ State.reset.subClock < 40 ∧ State.reset.inReset = true) ∧
      ({ up with subClock := 39 } : State).pending = [] ∧ ({ up with subClock := 39 } : State).subClock < 40 ∧
      ({ up with subClock := 39 } : State).inReset = false ∧
      (∀ x ∈ [Transmitter.idle, .sending (frameOf .statusQuery []) 1319, .resetBreak 1319],
        ((link .rdi fun u => { u with tx := x }).liuOf .rdi).tx = x) := by decide +kernel

theorem witness_CommandsThatDoNotOccur :
    (State.reset.inReset = true ∧ Instr.demand ≠ .reset ∧ Instr.demand ≠ .resetEnd) ∧ up.inReset = false ∧
      up.ptm.oneShot ≠ some up.timeBase ∧ up.ptm.timer ≠ some up.timeBase ∧ up.ale.pass = none ∧
      up.act.pinLevel = true ∧ ({ up.act with held := 199 } : Act).held < 200 ∧
      (elapsed (0 : Time) 65535 < 65536) ∧ (link .fdi fun u => { u with framer := .inFrame, gap := some 1319 }).inReset = false ∧
      (Transmitter.sending (frameOf .statusQuery []) 1319).frameDone = false ∧ (Transmitter.resetBreak 1319).breakDone = false ∧
      up.served = none := by decide +kernel

theorem witness_ResetEndTakesLineLevels : State.reset.inReset = true := rfl

theorem witness_FrameBytesJoinReceiveQueue :
    up.inReset = false ∧ (frameOf .demand (List.replicate 16 7)).WellFormed ∧ (up.liuOf .vsc).framer ≠ .overrun ∧
      ((link .vsc fun u => { u with framer := .overrun }).liuOf .vsc).framer = .overrun := by decide +kernel

/-- The framer's clauses, each at a link of count 8. -/
theorem witness_FramerJudgesEachByte :
    let s := fun (fr : Framer) (bytes : List Byte) =>
      link .fdi fun u => { u with framer := fr, assembly := bytes, badCount := 8, faulted := true }
    let ask := fun (fr : Framer) (bytes : List Byte) => ((s fr bytes).liuOf .fdi)
    (ask .hunt []).badCount ≤ 8 ∧ (ask .hunt []).framer = .hunt ∧ (ask .overrun []).framer = .overrun ∧
      (ask .inFrame [2]).framer = .inFrame ∧ ((ask .inFrame [2]).assembly.length = 1 ∧ 16 < (17 : Byte).toNat) ∧
      ((ask .inFrame [2]).assembly ++ [16] = 2 :: 16 :: [] ∧ (16 : Byte).toNat ≤ 16 ∧ ([] : List Byte).length < 16 + 1) ∧
      ((ask .inFrame [92, 0]).assembly ++ [165] = 92 :: 0 :: [165] ∧ [(165 : Byte)].length = (0 : Byte).toNat + 1 ∧
        (([92, 0, 165] : List Byte).map BitVec.toNat).sum % 256 ≠ 0) ∧
      ((ask .inFrame [92, 0]).assembly ++ [164] = 92 :: 0 :: [164] ∧
        (([92, 0, 164] : List Byte).map BitVec.toNat).sum % 256 = 0) := by decide +kernel

theorem witness_StartBitOrGapExpiry :
    let s := link .fdi fun u => { u with framer := .inFrame, assembly := [2], gap := some 1320, badCount := 8 }
    s.inReset = false ∧ (s.liuOf .fdi).badCount ≤ 8 ∧ (s.liuOf .fdi).framer = .inFrame ∧
      (s.liuOf .fdi).gap = some 1320 ∧ (up.liuOf .fdi).framer ≠ .inFrame := by decide +kernel

theorem witness_ReceiverReadsWhatIsSent :
    (0 : Nat) < 20 ∧ (19 : Nat) < 20 ∧ (420 : Nat) < 421 ∧ (421 : Nat) < 880 ∧ (420 : Nat) < 879 ∧ (879 : Nat) < 880 ∧
      0 < (frameOf .allocEnable []).bytes.length ∧ 2 < (frameOf .allocEnable []).bytes.length ∧
      440 * (frameOf .allocEnable []).bytes.length ≤ 1320 ∧
      (lineBit 0 true 9 = true ∧ (420 : Nat) < 40 * (9 + 1) + 21) ∧
      (lineBit 1 false 1 = true ∧ (∀ i < 10, 1 < i → lineBit 1 false i = false) ∧ (420 : Nat) < 40 * (1 + 1) + 341) := by
  decide

theorem witness_BreakEmptiesTheLink : up.inReset = false := rfl

theorem witness_TransmitterTakesNextFrame :
    let f := frameOf .statusQuery []
    let s := fun (t : Transmitter) (q : List Frame) => (link .rdi fun u => { u with tx := t, txQueue := q }).liuOf .rdi
    (s (.sending f 1320) []).tx = .sending f 1320 ∧ (f.payload.length + 3) * 440 ≤ 1320 ∧
      (s (.sending f 1320) []).txQueue = [] ∧ (s (.sending f 1320) [f, f]).txQueue = f :: [f] ∧
      (s (.resetBreak 1320) []).tx = .resetBreak 1320 ∧ (s (.resetBreak 1320) [f]).txQueue = f :: [] := by decide +kernel

theorem witness_FrameBytesRoundTrip :
    (frameOf .demand (List.replicate 16 7)).WellFormed ∧ Frame.ofBytes [92, 0, 164] = some (frameOf .allocEnable []) := by
  decide +kernel

/-- A link of two waiting frames and one unsent RESPONSE is eligible; with two it is not. -/
theorem witness_ArbiterServesFirstEligible :
    let r : Frame := { kind := Frame.responseCode, tag := 0, payload := [0, 0] }
    up.served = none ∧
      (link .sbc fun u => { u with rxQueue := [frameOf .statusQuery []], txQueue := [r] }).served =
        some (.sbc, frameOf .statusQuery []) ∧
      (link .sbc fun u => { u with rxQueue := [frameOf .statusQuery []], txQueue := [r, r] }).served = none := by
  decide +kernel

theorem witness_FrameServedOnce : (serving .statusQuery .sbc []).Serves .sbc (frameOf .statusQuery []) := by
  decide +kernel

theorem witness_RequestEngineChecks :
    (waits .fdi { kind := 0x21, tag := 0, payload := [] } up).Serves .fdi { kind := 0x21, tag := 0, payload := [] } ∧
      (∀ k ∈ Kind.all, (0x21 : BitVec 6) ≠ k.code) ∧
      (Ready .statusQuery .vsc [] (serving .statusQuery .vsc [])) ∧
      ((serving .demand .sbc []).Serves .sbc (frameOf .demand []) ∧ Kind.demand.permitted .sbc = false) ∧
      ((serving .demand .vsc [0]).Serves .vsc (frameOf .demand [0]) ∧ Kind.demand.permitted .vsc = true ∧
        (frameOf .demand [0]).payload.length ≠ Kind.demand.length) := by decide +kernel

theorem witness_ResponseFormAndPlace :
    (List.replicate 14 (0 : Byte)).length ≤ 14 ∧ ((link .vsc fun u => { u with tx := .idle }).liuOf .vsc).tx = .idle ∧
      ((link .vsc fun u => { u with tx := .idle }).liuOf .vsc).txQueue = [] := by decide +kernel

theorem witness_DemandKeptOrRefused :
    Ready .demand .vsc [0, 0, 8, 0, 0, 0, 0, 0] (serving .demand .vsc [0, 0, 8, 0, 0, 0, 0, 0]) ∧
      Ready .demand .vsc [0, 0, 7, 1, 0, 0, 0, 0] (serving .demand .vsc [0, 0, 7, 1, 0, 0, 0, 0]) ∧
      7 < u8 [0, 0, 8, 0, 0, 0, 0, 0] 2 ∧ 1 < u8 [0, 0, 7, 2, 0, 0, 0, 0] 3 ∧
      u8 [0, 0, 7, 1, 0, 0, 0, 0] 2 = (7 : Fin 8).val ∧ u8 [0, 0, 7, 1, 0, 0, 0, 0] 3 ≤ 1 := by decide +kernel

theorem witness_EnvelopeKeptOrRefused :
    Ready .envelope (Axle.link .rear) [0, 0, 0, 0, 0, 0, 2] (serving .envelope .rdi [0, 0, 0, 0, 0, 0, 2]) ∧
      Ready .envelope (Axle.link .front) [0, 0, 0, 0, 0, 0, 1] (serving .envelope .fdi [0, 0, 0, 0, 0, 0, 1]) ∧
      1 < u8 [0, 0, 0, 0, 0, 0, 2] 6 ∧ u8 [0, 0, 0, 0, 0, 0, 1] 6 ≤ 1 := by decide +kernel

theorem witness_ReferenceKeptOrRefused :
    Ready .reference .sbc [0, 0, 2, 0] (serving .reference .sbc [0, 0, 2, 0]) ∧
      Ready .reference .sbc [0, 0, 1, 1] (serving .reference .sbc [0, 0, 1, 1]) ∧
      1 < u8 [0, 0, 2, 0] 2 ∧ u8 [0, 0, 1, 1] 2 ≤ 1 ∧ u8 [0, 0, 1, 1] 3 ≤ 1 := by decide +kernel

theorem witness_RecordFreshForThreshold : (50 : Nat) ≤ 50 ∧ 1 ≤ 50 ∧ 1 ≤ (51 : Nat) := by decide

/-- LIMIT_POST's clauses on the example's table: a tag of 16, a foreign axle, an endless inverter lease, a full
share of the table (four of the VSC's), and an accepted posting at tag 15. -/
theorem witness_LimitPostJudged :
    let four := [4, 5, 9].map fun t =>
      ({ owner := .vsc, tag := t, axle := .both, kind := .driveCeil, value := 0, lifetime := 0, remaining := 0 } : Limit)
    let s := { (serving .limitPost .vsc [7, 2, 3, 0, 0, 0]) with limits := table7 ++ four }
    Ready .limitPost .vsc [16, 0, 0, 0, 0, 0] (serving .limitPost .vsc [16, 0, 0, 0, 0, 0]) ∧
      15 < u8 [16, 0, 0, 0, 0, 0] 0 ∧ u8 [15, 2, 3, 0, 0, 1] 0 ≤ 15 ∧ u8 [15, 2, 3, 0, 0, 1] 1 = LimitAxle.both.code ∧
      u8 [15, 2, 3, 0, 0, 1] 2 = LimitKind.noTransfer.code ∧
      Ready .limitPost .fdi [15, 2, 3, 0, 0, 1] (serving .limitPost .fdi [15, 2, 3, 0, 0, 1]) ∧
      Ready .limitPost .fdi [15, 0, 3, 0, 0, 0] (serving .limitPost .fdi [15, 0, 3, 0, 0, 0]) ∧
      Ready .limitPost .vsc [7, 2, 3, 0, 0, 0] s ∧ (∀ r ∈ s.limits, ¬ (r.owner = .vsc ∧ r.tag = 7)) ∧
      4 ≤ (s.limits.filter fun r => r.owner = .vsc).length ∧
      Ready .limitPost .sbc [15, 2, 3, 0, 0, 0] (serving .limitPost .sbc [15, 2, 3, 0, 0, 0]) := by decide +kernel

theorem witness_LimitWithdrawJudged :
    LimitsOk table7 ∧ Ready .limitWithdraw .sbc [16] (serving .limitWithdraw .sbc [16]) ∧
      Ready .limitWithdraw .sbc [2] { (serving .limitWithdraw .sbc [2]) with limits := table7 } ∧
      (∃ r ∈ table7, r.owner = .sbc ∧ r.tag = 2) ∧
      Ready .limitWithdraw .rdi [15] { (serving .limitWithdraw .rdi [15]) with limits := table7 } ∧
      ∀ r ∈ table7, ¬ (r.owner = .rdi ∧ r.tag = 15) := ⟨table7_ok, by decide +kernel⟩

theorem witness_LimitListAnswered :
    LimitsOk table7 ∧ Ready .limitList .sbc [2] { (serving .limitList .sbc [2]) with limits := table7 } ∧
      (∃ r, table7[u8 [2] 0]? = some r) ∧
      Ready .limitList .sbc [3] { (serving .limitList .sbc [3]) with limits := table7 } ∧ table7.length ≤ u8 [3] 0 :=
  ⟨table7_ok, by decide +kernel, ⟨_, rfl⟩, by decide +kernel, by decide⟩

theorem witness_LimitCountsInItsLifetime :
    LimitsOk table7 ∧ (∃ r ∈ table7, r.remaining = r.lifetime ∧ r.lifetime = 3 ∧ 2 < r.lifetime) ∧
      ∃ r ∈ table7, r.remaining = r.lifetime ∧ r.lifetime = 0 := ⟨table7_ok, by decide, by decide⟩

theorem witness_MapStageJudged :
    Ready .mapStage .vsc [0, 0, 254, 0, 0, 0, 0, 0, 0] (serving .mapStage .vsc [0, 0, 254, 0, 0, 0, 0, 0, 0]) ∧
      (8 ≤ u8 [0, 0, 254, 0, 0, 0, 0, 0, 0] 2 ∧ u8 [0, 0, 254, 0, 0, 0, 0, 0, 0] 2 ≤ 254) ∧
      Ready .mapStage .vsc [7, 0, 255, 0, 0, 0, 0, 0, 0] (serving .mapStage .vsc [7, 0, 255, 0, 0, 0, 0, 0, 0]) ∧
      (KeyField.band 7).toNat = u8 [7, 0, 255, 0, 0, 0, 0, 0, 0] 0 ∧
      KeyField.any.toNat = u8 [7, 0, 255, 0, 0, 0, 0, 0, 0] 2 := by decide +kernel

/-- MAP_COMMIT's five rows: a wrong complement; set 16; not staged; the slot occupied; accepted with AUTO. -/
theorem witness_MapCommitJudged :
    let at_ := fun (p : List Byte) (m : SplitMap) => { (serving .mapCommit .vsc p) with map := m }
    let fits := fun p : List Byte => u8 p 2 + (u8 p 0 * 16 + u8 p 1) % 256 = 255
    (Ready .mapCommit .vsc [12, 4, 60] (at_ [12, 4, 60] mapUp.map) ∧ ¬ fits [12, 4, 60]) ∧
      (Ready .mapCommit .vsc [16, 0, 255] (at_ [16, 0, 255] mapUp.map) ∧ fits [16, 0, 255] ∧ 15 < u8 [16, 0, 255] 0) ∧
      (Ready .mapCommit .vsc [15, 4, 11] (at_ [15, 4, 11] up.map) ∧ fits [15, 4, 11] ∧ up.map.staged = false) ∧
      (fits [15, 3, 12] ∧ (pendingMap .auto).staged = true ∧ (pendingMap .auto).slot ≠ .empty) ∧
      (mapUp.map.staged = true ∧ mapUp.map.slot = .empty ∧ u8 [15, 4, 11] 0 = (15 : Fin 16).val ∧ u8 [15, 4, 11] 1 = 4 ∧
        u8 [15, 3, 12] 1 = (3 : Fin 4).val) := by decide +kernel

theorem witness_MapFlushJudged :
    Ready .mapFlush .vsc [] (serving .mapFlush .vsc []) ∧ (serving .mapFlush .vsc []).map.slot = .empty ∧
      (pendingMap .auto).slot ≠ .empty := by decide +kernel

theorem witness_MapReadAndProbeAnswered :
    (Ready .mapRead .sbc [15, 3] (serving .mapRead .sbc [15, 3]) ∧ (up.map.set 15).lru = [0, 1, 2, 3]) ∧
      (Ready .mapRead .sbc [15, 4] (serving .mapRead .sbc [15, 4]) ∧ 3 < u8 [15, 4] 1) ∧
      (Ready .mapProbe .rdi [7, 1, 7, 7, 8] (serving .mapProbe .rdi [7, 1, 7, 7, 8]) ∧ 7 < u8 [7, 1, 7, 7, 8] 4) ∧
      Ready .mapProbe .rdi [7, 1, 7, 7, 7] (serving .mapProbe .rdi [7, 1, 7, 7, 7]) ∧
      u8 [7, 1, 7, 7, 7] 0 * 2 + u8 [7, 1, 7, 7, 7] 1 = (15 : Fin 16).val := by decide +kernel

theorem witness_LookupSelectsMostSpecific :
    (set8.entry 0).valid = true ∧ (set8.entry 0).content.key = { load := .any, grade := .any, speed := .any } ∧
      (set8.entry 3).valid = true ∧
      (set8.entry 3).content.key = { load := .band 3, grade := .band 6, speed := .band 2 } := by decide +kernel

/-- A write under AUTO into a set with an invalid way, one to a named way, one into a full set, a flush, none. -/
theorem witness_PendingMapOperationApplied :
    (pendingMap .auto).Ok ∧ (pendingMap (.way 1)).Ok ∧ (pendingMap .auto).slot = .write staged420 12 .auto ∧
      (∃ v, (((pendingMap .auto).set 12).entry v).valid = false) ∧ (∀ v, (set8.entry v).valid = true) ∧
      set8.OrderOk ∧ set8.KeysDistinct ∧ ({ up.map with slot := .flush } : SplitMap).slot = .flush ∧ up.map.slot = .empty :=
  ⟨pendingMap_ok _, pendingMap_ok _, by decide +kernel, by decide +kernel, by decide +kernel, by decide +kernel,
    by decide +kernel, rfl, rfl⟩

theorem witness_ConfigWriteJudged :
    (Ready .configWrite .vsc [23, 0, 0] (serving .configWrite .vsc [23, 0, 0]) ∧ 22 < u8 [23, 0, 0] 0) ∧
      Ready .configWrite .vsc [22, 0, 0] (serving .configWrite .vsc [22, 0, 0]) ∧
      Param.statusInterval.index.val = u8 [22, 0, 0] 0 ∧ up.act.state = .standby ∧ busy.act.state ≠ .standby := by
  decide +kernel

theorem witness_ConfigReadAnswered :
    (Ready .configRead .sbc [23] (serving .configRead .sbc [23]) ∧ 22 < u8 [23] 0) ∧
      Ready .configRead .sbc [22] (serving .configRead .sbc [22]) ∧ Param.statusInterval.index.val = u8 [22] 0 := by
  decide +kernel

theorem witness_EnableAndDisable :
    (Ready .allocEnable .vsc [] (serving .allocEnable .vsc []) ∧ up.act.filtered = true) ∧
      ({ up.act with filtered := false } : Act).filtered = false ∧
      (Ready .allocDisable .vsc [] (serving .allocDisable .vsc []) ∧ up.act.state = .standby) ∧
      ((serving .allocDisable .vsc []).setAlloc .run).act.state = .run := by decide +kernel

theorem witness_ToffFilterAndRising :
    let s := { (serving .allocEnable .vsc []) with act := { up.act with filtered := false, held := 200, state := .forcedOff } }
    up.inReset = false ∧ up.act.pinLevel ≠ false ∧ s.inReset = false ∧ s.act.pinLevel = true ∧ s.act.filtered = false ∧
      200 ≤ s.act.held ∧ Ready .allocEnable .vsc [] s ∧ s.act.state = .forcedOff ∧
      ∃ t, exec .toffNRising s = .next t := ⟨by decide, by decide, by decide +kernel, by decide +kernel, by decide +kernel,
        by decide +kernel, by decide +kernel, by decide +kernel, ⟨_, rfl⟩⟩

/-- The state before a falling of TOFF_N, with the example's pass in flight. -/
def falling : State := { busy with act := { busy.act with pinLevel := false } }

theorem witness_ToffFallingForcesOff :
    let r : Frame := { kind := Frame.responseCode, tag := 0, payload := [0, 0] }
    let f : Frame := { kind := Frame.axleCommandCode, tag := 0, payload := [] }
    (falling.inReset = false ∧ falling.act.pinLevel = false ∧ falling.act.filtered = true ∧ 200 ≤ falling.act.held) ∧
      Transmitter.resetBreak 0 ≠ .idle ∧ (∀ g ∈ [r, r], g.kind ≠ f.kind) ∧ [r, f, r] = [r] ++ f :: [r] ∧ f.kind = f.kind ∧
      ∀ h ∈ [r], h.kind ≠ f.kind := by
  decide +kernel

theorem witness_StatusQueryAnswered : Ready .statusQuery .sbc [] (serving .statusQuery .sbc []) := by decide +kernel

theorem witness_CountedEdgeAndHistory :
    up.inReset = false ∧ ({ Asu.reset with history := edges 4 } : Asu).history = ⟨100000, .forward⟩ :: (edges 4).tail ∧
      65536 ≤ ((165536 : Time) - 100000).toNat := by decide +kernel

theorem witness_PhaseErrorMarksWindow : up.inReset = false := rfl

/-- The five cases of a Z rising edge, the counts at the tolerance's edge. -/
theorem witness_ZRisingEdgeChecksIndex :
    let off := fun n : Int => ((n.natAbs : Int) - up.act.active.cpr .front).natAbs
    up.inReset = false ∧ (ConfigSet.reset.put .indexUse 2).indexUse .front = false ∧ up.act.active.indexUse .front = true ∧
      up.asu.front.armed = false ∧ ({ Asu.reset with armed := true, dirChanged := true } : Asu).armed = true ∧
      off (-190) ≤ up.act.active.val .indexTolerance ∧ up.act.active.val .indexTolerance < off 195 := by decide +kernel

theorem witness_WindowSpeedByMethod :
    let u := fun (n : Int) (h : List EdgeEntry) => ({ Asu.reset with windowCount := n, history := h, lastDir := some .forward } : Asu)
    (8 ≤ 8 ∧ (u (-16) []).Ok ∧ 16 ≤ |(u (-16) []).windowCount| ∧ 1 ≤ ((1 : Time) - (u (-16) []).windowStart).toNat) ∧
      ((u 15 (edges 65535)).Ok ∧ ¬ 16 ≤ |(u 15 (edges 65535)).windowCount| ∧ ((100000 : Time) - (100000 - 65535)).toNat ≤ 65535 ∧
        ((165535 : Time) - 100000).toNat ≤ 65535) ∧
      ((u 15 ((edges 4).take 4)).Ok ∧ ((edges 4).take 4).length < 5) ∧
      (u 15 (edges 65536)).Ok ∧ 65535 < ((100000 : Time) - (100000 - 65536)).toNat ∧
        65535 < ((165536 : Time) - 100000).toNat := by
  have h : ∀ n : Int, |n| ≤ 32767 → ∀ k : List EdgeEntry, k.length ≤ 5 → (∀ e ∈ k, some Direction.forward = some e.dir) →
      ({ Asu.reset with windowCount := n, history := k, lastDir := some .forward } : Asu).Ok := by
    intro n hn k hk hd
    exact ⟨hn, show |(0 : Int)| ≤ 32767 by decide, hk, hd, show 0 = 0 ∧ 0 ≤ 16 by decide, show |(0 : Int)| ≤ 65535 by decide⟩
  exact ⟨⟨by decide, h _ (by decide) _ (by decide) (by decide), by decide, by decide⟩,
    ⟨h _ (by decide) _ (by decide) (by decide), by decide, by decide, by decide⟩,
    ⟨h _ (by decide) _ (by decide) (by decide), by decide⟩, h _ (by decide) _ (by decide) (by decide), by decide, by decide⟩

theorem witness_HealthFollowsEvidence :
    Asu.reset.HealthOk ∧ ({ Asu.reset with health := .suspect, faultCount := 2 } : Asu).HealthOk ∧
      ({ Asu.reset with health := .fault, faultCount := 3, goodRun := 15 } : Asu).HealthOk ∧ 16 ≤ 16 :=
  ⟨show 0 = 0 ∧ 0 ≤ 16 by decide, show (2 = 1 ∨ 2 = 2) ∧ 0 = 0 by decide, show 3 = 3 ∧ 15 ≤ 15 by decide, le_refl _⟩

theorem witness_TimerExpiryIsABoundary :
    let s := { busy with timeBase := 1000 }
    s.inReset = false ∧ s.ptm.timer = some s.timeBase ∧ s.ale.pass ≠ none ∧
      ({ up with timeBase := 1000 } : State).ale.pass = none := by decide +kernel

theorem witness_OneShotExpiryLosesLine :
    let s := fun (m : SyncMode) (last : Time) =>
      ({ up with timeBase := 9000, ptm := { up.ptm with mode := m, oneShot := some 9000, lastBoundary := last } } : State)
    (s .internal 0).inReset = false ∧ (s .internal 0).ptm.oneShot = some (s .internal 0).timeBase ∧
      ((9000 : Time) - 8001).toNat < up.act.active.val .internalPeriod ∧
      up.act.active.val .internalPeriod ≤ ((9000 : Time) - 8000).toNat ∧ (s .synced 8000).ale.pass = none ∧
      ({ (s .synced 8000) with ale := busy.ale } : State).ale.pass ≠ none := by decide +kernel

/-- The clauses of an edge on SYNC_IN: a falling edge under RISING; one 20 µs after the last; the divider at 7 of
8; a count that reaches 16. -/
theorem witness_SyncEdgeQualifiedOrDiscarded :
    let p := { up.ptm with dividerCount := 7, reacquire := 15, oneShot := some 5000, lastQualified := some 4000 }
    up.inReset = false ∧ ¬ (p.select = .both ∨ p.select = .falling) ∧ p.select = .rising ∧
      20 ≤ ((4020 : Time) - 4000).toNat ∧ ({ p with dividerCount := 6 } : Ptm).dividerCount + 1 < p.divider ∧
      p.divider ≤ p.dividerCount + 1 ∧ p.mode = .internal ∧ min 16 (p.reacquire + 1) = 16 ∧
      min 16 (({ p with reacquire := 14 } : Ptm).reacquire + 1) ≠ 16 ∧
      ({ p with mode := .synced } : Ptm).mode = .synced := by decide +kernel

/-- A usable sensor and an unusable one; a stale and a fresh envelope; a hit and a miss. -/
theorem witness_TakenBoundaryHandsOver :
    let s := { mapUp with image := busy.image, asu := { up.asu with rear := { up.asu.rear with phaseError := true } } }
    let k : MapKey := { set := 12, load := 2, grade := 3, speed := 0 }
    (s.asuOf .front).usable true = true ∧ (s.asuOf .rear).phaseError = true ∧
      ((s.image.envelope.get .rear).advance.mark 3 false).fresh = false ∧
      (({ fields := (s.image.envelope.get .rear).fields, age := 0 } : Aged EnvelopeRec).advance.mark 3 false).fresh = true ∧
      (s.map.applyPending.set 12).select k = some 1 ∧ (up.map.applyPending.set 12).select k = none := by decide +kernel

theorem witness_CompletionPublishesAndReports :
    busy.inReset = false ∧ busy.ale.pass = some flying ∧ falling.ale.pass = some flying ∧
      ({ busy with statusCount := 3 } : State).act.active.val .statusInterval ≤ 3 + 1 := by decide +kernel

theorem witness_DemandAndShareConditioned :
    let stale := { slipCopy with image := { slipCopy.image with demand := { slipCopy.image.demand with fresh := false } } }
    ({ slipCopy with allocState := .rampdown } : PassCopy).allocState ≠ .run ∧ slipCopy.image.demand.fresh = true ∧
      stale.allocState = .run ∧ stale.image.demand.fresh = false ∧ (stale.config.val .demandDecay : Int) < stale.carried.demand ∧
      |(stale.policy.share : Int) - stale.carried.share| ≤ stale.config.val .shareSlew ∧
      stale.policy.share ≤ 1000 ∧ stale.carried.share ≤ 1000 ∧ -400 ≤ slipCopy.image.demand.fields.grade ∧
      slipCopy.image.demand.fields.grade ≤ 400 := by decide +kernel

/-- The example's pass meets the bounds; and so does a demand of −7001 at 333 ‰. -/
theorem witness_BaseSplitExact :
    |slipCopy.demand| ≤ 16000 ∧ slipCopy.share ≤ 1000 ∧ 0 ≤ slipCopy.demand ∧
      (let p := { slipCopy with image := { slipCopy.image with demand := { slipCopy.image.demand with
                    fields := { slipCopy.image.demand.fields with demand := -7001 } } }
                                carried := { slipCopy.carried with share := 333 }
                                policy := { slipCopy.policy with share := 333 } }
       p.demand = -7001 ∧ p.share = 333 ∧ p.demand ≤ 0) := by decide +kernel

/-- The example's pass, in which the rear slips and the front may receive; a stale envelope, an open one, and a
ceiling that covers the rear. -/
theorem witness_CutTransferAndSpillAddNothing :
    (slipCopy.noSlip .front = false ∧ carriesNoTransfer slipCopy.limits .front = false ∧
      (slipCopy.image.envelope.get .rear).fresh = true ∧ (slipCopy.image.envelope.get .rear).fields.ready = true ∧
      ({ slipCopy.image.envelope.get .rear with fresh := false } : Marked EnvelopeRec).fresh = false ∧
      ∃ q ∈ slipCopy.limits, q.axle.covers .rear = true ∧ q.kind = .driveCeil) ∧
    |slipCopy.demand| ≤ 16000 ∧ slipCopy.share ≤ 1000 ∧ slipCopy.slipping .rear = true ∧ slipCopy.slipping .front = false ∧
      ({ slipCopy with latched := { slipCopy.latched with front := { speed := 0, state := .invalid, health := .good } } } :
        PassCopy).noSlip .front = true ∧
      carriesNoTransfer table7 .front = true := by decide +kernel

/-- R26's total ceiling: the front grows by 400 while the rear runs down by 10; the front gives way. -/
def crowded : PassCopy :=
  { slipCopy with
      policy := { slipCopy.policy with share := 1000 }
      image := { slipCopy.image with
        demand := { slipCopy.image.demand with fields := { slipCopy.image.demand.fields with demand := 16000 } }
        envelope := PerAxle.of fun _ =>
          { fields := { drive := 16000, regen := 0, motorSpeed := 0, ready := true }, age := 1, fresh := true }
        reference := { slipCopy.image.reference with fresh := false } }
      limits := [{ owner := .vsc, tag := 0, axle := .rear, kind := .rateCeil, value := 10, lifetime := 0, remaining := 0 }]
      carried := { slipCopy.carried with share := 1000 }
      prev := { front := 10000, rear := 6000 } }

/-- R26: 10400 and 5990 pass 16000, so the front ends at 10010. -/
theorem test_total_ceiling : (crowded.publish false).torque = { front := 10010, rear := 5990 } := by decide +kernel

theorem witness_CommandsBoundedRatedAndAligned :
    (CommandsOk crowded.prev ∧ 16000 < |crowded.clipped9 .front| + |crowded.clipped9 .rear| ∧
      |crowded.prev.get .front| < |crowded.clipped9 .front| ∧
      |crowded.clipped9 (Axle.other .front)| ≤ |crowded.prev.get (Axle.other .front)|) ∧
    |slipCopy.clipped9 .front| + |slipCopy.clipped9 .rear| ≤ 16000 ∧
    CommandsOk slipCopy.prev ∧
      slipCopy.image.envelope.All (fun e => e.fields.drive ≤ 16000 ∧ e.fields.regen ≤ 16000) ∧
      ∃ r ∈ ({ slipCopy with limits := table7 } : PassCopy).limits, r.kind = .rateCeil ∧ r.axle.covers .front = true :=
  ⟨⟨by unfold CommandsOk; decide +kernel, by decide +kernel⟩, by decide +kernel, by unfold CommandsOk; decide +kernel,
    by decide +kernel, by decide +kernel⟩

theorem witness_NoStepReversesACommand :
    busy.ale.Ok ∧ (∃ t, step busy = .next t) ∧ ({ busy with pending := [] } : State).pending.head? ≠ some .passCompletion :=
  ⟨busy_ok.engine, ⟨_, rfl⟩, by decide⟩

/-- R27: the front runs down from 1000 while the rear, at rest, takes up the new sign; `last` is the rear's
last sign. -/
def opposing (last : LastSign) : PassCopy :=
  { slipCopy with
      image := { slipCopy.image with
        demand := { slipCopy.image.demand with fields := { slipCopy.image.demand.fields with demand := -4000 } }
        reference := { slipCopy.image.reference with fresh := false } }
      limits := []
      carried := { slipCopy.carried with
        axle := { slipCopy.carried.axle with rear := { lastSign := last, holdActive := false, holdCounter := 2 } } }
      prev := { front := 1000, rear := 0 } }

/-- R27: the rear, which turned, is set to 0, keeps its hold counter, and shows HOLD. -/
theorem test_interlock :
    let p := opposing .none
    p.limited .front = 600 ∧ p.limited .rear = -400 ∧ (p.publish false).torque = { front := 600, rear := 0 } ∧
      (p.flags false .rear).hold = true ∧ (p.carry false .rear).holdCounter = 2 := by decide +kernel

/-- A hold of three passes, and one of none; case A, case C; the interlock where the rear turned, and where
neither axle did and the rear was at rest. -/
theorem witness_ReversalWaitsTheHold :
    ((0 : Int) ≤ 10 ∧ (0 : Int) < 1000 ∧ (0 : Int) ≤ 0 ∧ ¬ ((0 : Int) < 0 ∨ (0 : Int) < 0) ∧
      (opposing .none).turned .rear = true ∧ (opposing .none).turned .front = false ∧
      opposed ((opposing .negative).limited .front) ((opposing .negative).limited .rear) = true ∧
      (opposing .negative).turned .rear = false ∧ (opposing .negative).turned .front = false ∧
      (opposing .negative).prev.get .rear = 0 ∧ (opposing .negative).prev.get .front ≠ 0) ∧
    let c : AxleCarry := { lastSign := .positive, holdActive := false, holdCounter := 0 }
    let asked : List (Int × Int) := List.replicate 3 (-600, 400)
    c.holdActive = false ∧ c.lastSign ≠ .none ∧ asked.length = 3 ∧
      (∀ x ∈ asked, x.1 ≠ 0 ∧ signOf x.1 ≠ c.lastSign ∧ 0 < x.2) ∧ (-600 : Int) ≠ 0 ∧ signOf (-600) ≠ c.lastSign ∧
      (0 : Int) < 400 ∧ ([] : List (Int × Int)).length = 0 := by decide

theorem witness_TorqueOffAndCompletionEndInZero :
    falling.inReset = false ∧ falling.ale.pass = some flying ∧ falling.act.pinLevel = false ∧
      falling.act.filtered = true ∧ 200 ≤ falling.act.held := by decide +kernel

theorem witness_StepKeepsSplitMap : busy.map.Ok ∧ ∃ t, step busy = .next t := ⟨busy_ok.map, ⟨_, rfl⟩⟩

theorem witness_StepKeepsLimitTable : LimitsOk busy.limits ∧ ∃ t, step busy = .next t := ⟨busy_ok.limits, ⟨_, rfl⟩⟩

theorem witness_StepKeepsLinks : busy.LinksOk ∧ ∃ t, step busy = .next t := ⟨busy_ok.links, ⟨_, rfl⟩⟩

/-- An allocator that is off, and one whose ALLOC_ENABLE is about to be served. -/
theorem witness_OffMeansZeroCommands :
    let s := { (serving .allocEnable .vsc []) with pending := [.allocEnable] }
    s.OffOk ∧ s.act.state.off = true ∧ s.act.state ≠ .run ∧
      ∃ t, step s = .next t ∧ t.act.state = .run :=
  ⟨fun _ => ⟨rfl, fun p hp => by cases hp⟩, by decide +kernel, by decide +kernel, ⟨_, rfl, by decide +kernel⟩⟩

theorem witness_StepKeepsEveryBlock : busy.Ok ∧ ∃ t, step busy = .next t := ⟨busy_ok, ⟨_, rfl⟩⟩

end Sys2Proof.Tests
end

section
/-! SUPPORT. Stage 5, the base split (R12): its two equations, what truncation toward zero bounds, the signs
of the two parts, and the proof of O49. -/

namespace Sys2Proof.Machine

theorem PassCopy.base_front (p : PassCopy) : p.base.front = (p.demand * p.share).tdiv 1000 := rfl

theorem PassCopy.base_rear (p : PassCopy) : p.base.rear = p.demand - p.base.front := rfl

theorem PassCopy.base_front_add_rear (p : PassCopy) : p.base.front + p.base.rear = p.demand := by
  rw [base_rear, add_sub_cancel]

/-- Truncation toward zero never gives the front more than its exact part, whatever the demand's sign (R12). -/
theorem PassCopy.abs_base_front_mul_le (p : PassCopy) : |p.base.front| * 1000 ≤ |p.demand| * p.share := by
  have magnitude : p.base.front.natAbs = (p.demand.natAbs * p.share) / 1000 := by
    rw [base_front, Int.natAbs_tdiv, Int.natAbs_mul, Int.natAbs_natCast]
    rfl
  rw [Int.abs_eq_natAbs, Int.abs_eq_natAbs, magnitude]
  exact_mod_cast Nat.div_mul_le_self _ _

/-- So the rear has at least its exact part: the odd unit goes there (R12). -/
theorem PassCopy.le_abs_base_rear_mul (p : PassCopy) :
    |p.demand| * (1000 - p.share) ≤ |p.base.rear| * 1000 := by
  have parts : |p.demand| ≤ |p.base.front| + |p.base.rear| := by
    rw [← p.base_front_add_rear]
    exact abs_add_le _ _
  have front := p.abs_base_front_mul_le
  linarith

theorem PassCopy.abs_base_front_le (p : PassCopy) (hs : p.share ≤ 1000) : |p.base.front| ≤ |p.demand| := by
  have front := p.abs_base_front_mul_le
  have share : |p.demand| * p.share ≤ |p.demand| * 1000 :=
    mul_le_mul_of_nonneg_left (by exact_mod_cast hs) (abs_nonneg _)
  linarith

/-- No part of a drive demand brakes (R12). -/
theorem PassCopy.base_nonneg (p : PassCopy) (hs : p.share ≤ 1000) (hd : 0 ≤ p.demand) :
    0 ≤ p.base.front ∧ 0 ≤ p.base.rear := by
  have front : 0 ≤ p.base.front := Int.tdiv_nonneg (mul_nonneg hd p.share.cast_nonneg) (by decide)
  have bound := p.abs_base_front_le hs
  rw [abs_of_nonneg front, abs_of_nonneg hd] at bound
  exact ⟨front, sub_nonneg.2 bound⟩

/-- No part of a braking demand drives (R12). -/
theorem PassCopy.base_nonpos (p : PassCopy) (hs : p.share ≤ 1000) (hd : p.demand ≤ 0) :
    p.base.front ≤ 0 ∧ p.base.rear ≤ 0 := by
  have front : p.base.front ≤ 0 := by
    rw [base_front, ← neg_nonneg, ← Int.neg_tdiv, ← neg_mul]
    exact Int.tdiv_nonneg (mul_nonneg (neg_nonneg.2 hd) p.share.cast_nonneg) (by decide)
  have bound := p.abs_base_front_le hs
  rw [abs_of_nonpos front, abs_of_nonpos hd, neg_le_neg_iff] at bound
  exact ⟨front, sub_nonpos.2 bound⟩

/-- The product of stage 5 fits its stated range, for a demand and a share within theirs (R12). -/
theorem PassCopy.abs_demand_mul_share_le (p : PassCopy) (hd : |p.demand| ≤ 16000) (hs : p.share ≤ 1000) :
    |p.demand * p.share| ≤ 16000000 := by
  rw [abs_mul, Nat.abs_cast]
  calc |p.demand| * p.share ≤ 16000 * 1000 :=
        mul_le_mul hd (by exact_mod_cast hs) p.share.cast_nonneg (by decide)
    _ = 16000000 := by decide

/-- Settles O49: the equations of the split, the bound that truncation gives the front, and from it the rear's
bound and the signs; then R12's worked figures. -/
theorem baseSplitExact : Obligations.BaseSplitExact := by
  unfold Obligations.BaseSplitExact
  constructor
  · intro p hd hs
    exact ⟨p.base_front, p.base_rear, p.abs_demand_mul_share_le hd hs, p.base_front_add_rear,
      p.abs_base_front_le hs, p.base_nonneg hs, p.base_nonpos hs, p.abs_base_front_mul_le, p.le_abs_base_rear_mul⟩
  · intro p hd hs
    have product : p.demand * p.share = -2331333 := by rw [hd, hs]; decide
    have front : p.base.front = -2331 := by rw [p.base_front, product]; decide
    have rear : p.base.rear = -4670 := by rw [p.base_rear, hd, front]; decide
    exact ⟨product, congrArg₂ PerAxle.mk front rear⟩

end Sys2Proof.Machine
end

section
/-! SUPPORT. The Split Map's requests MAP_STAGE and MAP_COMMIT, and its lookup: what each answers and keeps,
and the proofs of O26, O27 and O30. -/

namespace Sys2Proof.Machine

/-! ### A request that its owner judged, answered without data bytes -/

/-- What an owner refuses without a change of the state is answered, and no more. -/
theorem serve_unchanged {k : Kind} {owner : Owner} {s : State} {l : Link} {f : Frame} {st : Status}
    (h : s.Serves l f) (hp : f.Passes k l)
    (e : owner l f.payload (s.dequeue l) = (s.dequeue l, some (bare st))) :
    serve k owner s = .next (s.answered l f st []) := by
  rw [serve_owner h hp, e]
  rfl

/-- What an owner changes in the Split Map alone stands beside the answer. -/
theorem serve_map_changed {k : Kind} {owner : Owner} {s : State} {l : Link} {f : Frame} {st : Status} {m : SplitMap}
    (h : s.Serves l f) (hp : f.Passes k l)
    (e : owner l f.payload (s.dequeue l) = ({ s.dequeue l with map := m }, some (bare st))) :
    serve k owner s = .next { s.answered l f st [] with map := m } := by
  rw [serve_owner h hp, e]
  rfl

/-! ### MAP_STAGE (R40) -/

/-- A key byte that names no key field refuses the request (R40). -/
theorem stageEntry_of_bad_key {p : List Byte} {i : Nat} (hi : i < 3) (h : keyOfByte (u8 p i) = none) (l : Link) (s : State) :
    stageEntry l p s = (s, some (bare .badField)) := by
  unfold stageEntry
  split
  next load grade speed hload hgrade hspeed => interval_cases i <;> simp [hload, hgrade, hspeed] at h
  next => rfl

/-- Three key fields are staged with the policy values brought into range; the status tells whether one of the
values was above its range (R40). -/
theorem stageEntry_of_keys {p : List Byte} {load grade speed : KeyField} (hload : load.toNat = u8 p 0)
    (hgrade : grade.toNat = u8 p 1) (hspeed : speed.toNat = u8 p 2) (l : Link) (s : State) :
    stageEntry l p s =
      ({ s with map := { s.map with
          staged := true
          stage := { key := { load := load, grade := grade, speed := speed }
                     policy := { share := min 1000 (u16 p 3), slipTarget := min 250 (u8 p 5)
                                 gain := u8 p 6, transferCap := min 16000 (u16 p 7) } } } },
       some (bare (if 1000 < u16 p 3 ∨ 250 < u8 p 5 ∨ 16000 < u16 p 7 then .clamped else .ok))) := by
  simp [stageEntry, ← hload, ← hgrade, ← hspeed, min_comm]

/-- Settles O26: a bad key byte names no key field, and three good ones are staged. -/
theorem mapStageJudged : Obligations.MapStageJudged := by
  unfold Obligations.MapStageJudged
  intro s l f h hp
  constructor
  · rintro ⟨i, hi, low, high⟩
    exact serve_unchanged h hp (stageEntry_of_bad_key hi (keyOfByte_none low high) l _)
  · intro load grade speed hload hgrade hspeed
    exact serve_map_changed h hp (stageEntry_of_keys hload hgrade hspeed l _)

/-! ### MAP_COMMIT (R42, R43) -/

theorem SplitMap.pendingFlag_eq_false {m : SplitMap} : m.pendingFlag = false ↔ m.slot = .empty := by
  unfold SplitMap.pendingFlag
  cases m.slot <;> simp

/-- The complement fits when it and the location, modulo 256, make 255 (R42). -/
theorem complementFits_iff {set way complement : Nat} :
    complementFits set way complement = true ↔ complement + (set * 16 + way) % 256 = 255 := by
  simp only [complementFits, decide_eq_true_eq]
  omega

/-- The way bytes: 0 to 3 name a way, 4 is AUTO (R42). -/
theorem wayChoiceOf_eq_some {n : Nat} {choice : WayChoice} :
    wayChoiceOf n = some choice ↔ choice = .auto ∧ n = 4 ∨ ∃ w : Fin 4, choice = .way w ∧ n = w.val := by
  constructor
  · intro h
    unfold wayChoiceOf at h
    split_ifs at h with lt eq
    · exact .inr ⟨⟨n, lt⟩, (Option.some.inj h).symm, rfl⟩
    · exact .inl ⟨(Option.some.inj h).symm, eq⟩
  · rintro (⟨rfl, rfl⟩ | ⟨w, rfl, rfl⟩)
    · exact wayChoiceOf_auto
    · exact wayChoiceOf_way w

/-- Every set byte and way byte in range names a location (R42). -/
theorem exists_location {set way : Nat} (hset : set ≤ 15) (hway : way ≤ 4) :
    ∃ n choice, setOfByte set = some n ∧ wayChoiceOf way = some choice := by
  refine ⟨⟨set, by omega⟩, ?_⟩
  obtain lt | rfl := hway.lt_or_eq
  · exact ⟨.way ⟨way, lt⟩, setOfByte_val ⟨set, _⟩, wayChoiceOf_way ⟨way, lt⟩⟩
  · exact ⟨.auto, setOfByte_val ⟨set, _⟩, wayChoiceOf_auto⟩

section
variable {p : List Byte}

/-- A wrong complement byte discards what is staged (R43, row 1). -/
theorem commitEntry_of_misfit (h : ¬ u8 p 2 + (u8 p 0 * 16 + u8 p 1) % 256 = 255) (l : Link) (s : State) :
    commitEntry l p s = ({ s with map := { s.map with staged := false } }, some (bare .badComplement)) := by
  rw [← complementFits_iff] at h
  simp [commitEntry, h]

/-- A set byte or a way byte out of range is refused (R43, row 2). -/
theorem commitEntry_of_bad_location (h : u8 p 2 + (u8 p 0 * 16 + u8 p 1) % 256 = 255)
    (bad : 15 < u8 p 0 ∨ 4 < u8 p 1) (l : Link) (s : State) :
    commitEntry l p s = (s, some (bare .badField)) := by
  rw [← complementFits_iff] at h
  obtain set | way := bad
  · simp [commitEntry, h, setOfByte_none set]
  · simp [commitEntry, h, wayChoiceOf_none way]

variable {n : Fin 16} {choice : WayChoice} (h : u8 p 2 + (u8 p 0 * 16 + u8 p 1) % 256 = 255)
  (hn : setOfByte (u8 p 0) = some n) (hc : wayChoiceOf (u8 p 1) = some choice)
include h hn hc

/-- With nothing staged the commit is refused (R43, row 3). -/
theorem commitEntry_of_not_staged (l : Link) (s : State) (staged : s.map.staged = false) :
    commitEntry l p s = (s, some (bare .wrongState)) := by
  rw [← complementFits_iff] at h
  simp [commitEntry, h, hn, hc, staged]

/-- An occupied pending slot refuses the commit and keeps what is staged (R43, row 4). -/
theorem commitEntry_of_occupied (l : Link) (s : State) (staged : s.map.staged = true) (slot : s.map.slot ≠ .empty) :
    commitEntry l p s = (s, some (bare .pendingBusy)) := by
  rw [← complementFits_iff] at h
  rw [Ne, ← SplitMap.pendingFlag_eq_false, Bool.not_eq_false] at slot
  simp [commitEntry, h, hn, hc, staged, slot]

/-- A staged entry and an empty slot: the write becomes pending (R43, row 5). -/
theorem commitEntry_of_empty (l : Link) (s : State) (staged : s.map.staged = true) (slot : s.map.slot = .empty) :
    commitEntry l p s =
      ({ s with map := { s.map with staged := false, slot := .write s.map.stage n choice } }, some (bare .ok)) := by
  rw [← complementFits_iff] at h
  rw [← SplitMap.pendingFlag_eq_false] at slot
  simp [commitEntry, h, hn, hc, staged, slot]

end

/-- The last row as the command sees it: the commit is accepted. -/
theorem exec_mapCommit_of_empty {s : State} {l : Link} {f : Frame} {n : Fin 16} {choice : WayChoice}
    (h : s.Serves l f) (hp : f.Passes .mapCommit l)
    (fit : u8 f.payload 2 + (u8 f.payload 0 * 16 + u8 f.payload 1) % 256 = 255)
    (hn : setOfByte (u8 f.payload 0) = some n) (hc : wayChoiceOf (u8 f.payload 1) = some choice)
    (staged : s.map.staged = true) (slot : s.map.slot = .empty) :
    exec .mapCommit s = .next { s.answered l f .ok [] with
      map := { s.map with staged := false, slot := .write s.map.stage n choice } } :=
  serve_map_changed h hp (commitEntry_of_empty fit hn hc l (s.dequeue l) staged slot)

/-- Settles O27: one equation of the owner for each row of the table; the busy commit's row uses the last one
again, on the same state with its slot empty. -/
theorem mapCommitJudged : Obligations.MapCommitJudged := by
  unfold Obligations.MapCommitJudged
  intro s l f h hp set way fits
  refine ⟨fun misfit => ?_, fun fit bad => ?_, fun fit hset hway staged => ?_, fun fit hset hway staged slot => ?_,
    fun n choice fit hn hchoice staged slot => ?_⟩
  · exact serve_map_changed h hp (commitEntry_of_misfit misfit l _)
  · exact serve_unchanged h hp (commitEntry_of_bad_location fit bad l _)
  · obtain ⟨n, choice, hn, hc⟩ := exists_location hset hway
    exact serve_unchanged h hp (commitEntry_of_not_staged fit hn hc l _ staged)
  · obtain ⟨n, choice, hn, hc⟩ := exists_location hset hway
    have emptied : State.Serves { s with map := { s.map with slot := .empty } } l f := h
    exact ⟨serve_unchanged h hp (commitEntry_of_occupied fit hn hc l _ staged slot), _,
      exec_mapCommit_of_empty emptied hp fit hn hc staged rfl, rfl, n, choice, rfl⟩
  · have hs : setOfByte set = some n := by rw [← hn, setOfByte_val]
    exact exec_mapCommit_of_empty h hp fit hs (wayChoiceOf_eq_some.2 hchoice) staged slot

/-! ### Lookup (R35, R36) -/

/-- R35 for one field of a key. -/
theorem KeyField.matchesBand_iff {x : KeyField} {b : Fin 8} : x.matchesBand b = true ↔ x = .band b ∨ x = .any := by
  cases x <;> simp [KeyField.matchesBand]

theorem KeyField.anyCount_eq (x : KeyField) : x.anyCount = if x = .any then 1 else 0 := by
  cases x <;> rfl

/-- R35 for an entry. -/
theorem Entry.matchesKey_iff {e : Entry} {k : MapKey} : e.matchesKey k = true ↔ e.valid = true ∧
    (e.content.key.load = .band k.load ∨ e.content.key.load = .any) ∧
    (e.content.key.grade = .band k.grade ∨ e.content.key.grade = .any) ∧
    (e.content.key.speed = .band k.speed ∨ e.content.key.speed = .any) := by
  simp only [Entry.matchesKey, Bool.and_eq_true, KeyField.matchesBand_iff, and_assoc]

/-- R36's preference between two ways: fewer ANY fields, or as many and no greater number. -/
def MapSet.Precedes (m : MapSet) (w v : Fin 4) : Prop :=
  (m.entry w).content.key.anyCount < (m.entry v).content.key.anyCount ∨
    (m.entry w).content.key.anyCount = (m.entry v).content.key.anyCount ∧ w ≤ v

theorem MapSet.Precedes.refl (m : MapSet) (w : Fin 4) : m.Precedes w w := .inr ⟨rfl, le_rfl⟩

theorem MapSet.Precedes.trans {m : MapSet} {u v w : Fin 4} (huv : m.Precedes u v) (hvw : m.Precedes v w) :
    m.Precedes u w := by
  unfold MapSet.Precedes at *
  omega

theorem MapSet.Precedes.antisymm {m : MapSet} {v w : Fin 4} (hvw : m.Precedes v w) (hwv : m.Precedes w v) : v = w := by
  unfold MapSet.Precedes at *
  omega

/-- The outcome of a search of some ways: none of them matches, or the way found is one of them, matches and
precedes every other that does (R36). -/
def MapSet.BestOf (m : MapSet) (k : MapKey) (ways : List (Fin 4)) : Option (Fin 4) → Prop
  | none   => ∀ v ∈ ways, (m.entry v).matchesKey k = false
  | some w => w ∈ ways ∧ (m.entry w).matchesKey k = true ∧
      ∀ v ∈ ways, (m.entry v).matchesKey k = true → m.Precedes w v

/-- One more way, with a number above those searched, keeps the search's outcome the best. -/
theorem MapSet.BestOf.better {m : MapSet} {k : MapKey} {ways : List (Fin 4)} {best : Option (Fin 4)} {w : Fin 4}
    (h : m.BestOf k ways best) (above : ∀ v ∈ ways, v < w) : m.BestOf k (ways ++ [w]) (m.better k best w) := by
  have last : w ∈ ways ++ [w] := List.mem_append_right _ (List.mem_singleton_self w)
  unfold MapSet.better
  split_ifs with hw
  · cases best with
    | none =>
      have least : ∀ v ∈ ways, (m.entry v).matchesKey k = true → m.Precedes w v :=
        fun v hv hm => absurd hm (by simp [h v hv])
      exact ⟨last, hw, List.forall_mem_append.2 ⟨least, List.forall_mem_singleton.2 fun _ => .refl m w⟩⟩
    | some b =>
      obtain ⟨hb, hmatch, least⟩ := h
      dsimp only
      split_ifs with fewer
      · have least' : ∀ v ∈ ways, (m.entry v).matchesKey k = true → m.Precedes w v :=
          fun v hv hm => .trans (.inl fewer) (least v hv hm)
        exact ⟨last, hw, List.forall_mem_append.2 ⟨least', List.forall_mem_singleton.2 fun _ => .refl m w⟩⟩
      · have hbw : m.Precedes b w := by
          have := above b hb
          unfold MapSet.Precedes
          omega
        exact ⟨List.mem_append_left _ hb, hmatch,
          List.forall_mem_append.2 ⟨least, List.forall_mem_singleton.2 fun _ => hbw⟩⟩
  · cases best with
    | none => exact List.forall_mem_append.2 ⟨h, List.forall_mem_singleton.2 (Bool.eq_false_of_not_eq_true hw)⟩
    | some b =>
      obtain ⟨hb, hmatch, least⟩ := h
      exact ⟨List.mem_append_left _ hb, hmatch,
        List.forall_mem_append.2 ⟨least, List.forall_mem_singleton.2 fun hm => absurd hm hw⟩⟩

/-- A search in the order of the way numbers ends with the best of the ways searched. -/
theorem MapSet.bestOf_foldl (m : MapSet) (k : MapKey) {ways : List (Fin 4)} (sorted : ways.Pairwise (· < ·)) :
    m.BestOf k ways (ways.foldl (m.better k) none) := by
  induction ways using List.reverseRecOn with
  | nil => exact fun v hv => absurd hv List.not_mem_nil
  | append_singleton ways w ih =>
    obtain ⟨front, -, above⟩ := List.pairwise_append.1 sorted
    rw [List.foldl_append]
    exact (ih front).better fun v hv => above v hv w (List.mem_singleton_self w)

theorem mem_allWays (w : Fin 4) : w ∈ allWays := by
  revert w
  decide

theorem MapSet.bestOf_select (m : MapSet) (k : MapKey) : m.BestOf k allWays (m.select k) :=
  m.bestOf_foldl k (by decide)

/-- A search has one outcome. -/
theorem MapSet.BestOf.unique {m : MapSet} {k : MapKey} {ways : List (Fin 4)} {x y : Option (Fin 4)}
    (hx : m.BestOf k ways x) (hy : m.BestOf k ways y) : x = y := by
  cases x with
  | none =>
    cases y with
    | none => rfl
    | some w => exact absurd hy.2.1 (by simp [hx w hy.1])
  | some v =>
    obtain ⟨hv, vmatch, vleast⟩ := hx
    cases y with
    | none => exact absurd vmatch (by simp [hy v hv])
    | some w =>
      obtain ⟨hw, wmatch, wleast⟩ := hy
      rw [(vleast w hw wmatch).antisymm (wleast v hv vmatch)]

/-- The lookup selects what is the best of the four ways, and nothing else (R36). -/
theorem MapSet.select_eq_iff {m : MapSet} {k : MapKey} {x : Option (Fin 4)} : m.select k = x ↔ m.BestOf k allWays x :=
  ⟨fun h => h ▸ m.bestOf_select k, (m.bestOf_select k).unique⟩

/-- Settles O30: R35 field by field, and the search of the four ways as the one best outcome. -/
theorem lookupSelectsMostSpecific : Obligations.LookupSelectsMostSpecific := by
  unfold Obligations.LookupSelectsMostSpecific
  refine ⟨fun k => ?_, fun e k => Entry.matchesKey_iff, fun e k valid key => ?_, fun e b c d valid key k => ?_,
    fun m k => ⟨?_, fun w => ?_⟩, fun m k lru => rfl⟩
  · simp only [EntryKey.anyCount, KeyField.anyCount_eq]
  · simp [Entry.matchesKey_iff, valid, key]
  · simp [Entry.matchesKey_iff, valid, key, @eq_comm (Fin 8)]
  · simp [MapSet.select_eq_iff, MapSet.BestOf, mem_allWays]
  · simp [MapSet.select_eq_iff, MapSet.BestOf, MapSet.Precedes, mem_allWays]

end Sys2Proof.Machine
end

section
/-! SUPPORT. The Limit Table's requests LIMIT_WITHDRAW and LIMIT_LIST: which record an owner and a tag name,
what removing it leaves of the table, what the two requests answer, and the proofs of O23 and O24. -/

namespace Sys2Proof.Machine

/-! ### A request that its owner judged, answered with data bytes -/

/-- What an owner answers from the state alone changes nothing else. -/
theorem serve_unchanged_with_data {k : Kind} {owner : Owner} {s : State} {l : Link} {f : Frame} {st : Status}
    {data : List Byte} (h : s.Serves l f) (hp : f.Passes k l)
    (e : owner l f.payload (s.dequeue l) = (s.dequeue l, some { status := st, data := data })) :
    serve k owner s = .next (s.answered l f st data) := by
  rw [serve_owner h hp, e]
  rfl

/-- What an owner changes in the Limit Table alone stands beside the answer. -/
theorem serve_limits_changed {k : Kind} {owner : Owner} {s : State} {l : Link} {f : Frame} {st : Status}
    {data : List Byte} {table : List Limit} (h : s.Serves l f) (hp : f.Passes k l)
    (e : owner l f.payload (s.dequeue l) =
      ({ s.dequeue l with limits := table }, some { status := st, data := data })) :
    serve k owner s = .next { s.answered l f st data with limits := table } := by
  rw [serve_owner h hp, e]
  rfl

/-! ### The record of an owner and a tag (R55, R56) -/

@[simp] theorem Limit.named_iff {r : Limit} {l : Link} {tag : Nat} :
    r.named l tag = true ↔ r.owner = l ∧ r.tag = tag := by
  simp [Limit.named]

theorem any_named_iff {table : List Limit} {l : Link} {tag : Nat} :
    table.any (fun r => r.named l tag) = true ↔ ∃ r ∈ table, r.owner = l ∧ r.tag = tag := by
  simp

theorem ownerCount_eq_length (table : List Limit) (l : Link) :
    ownerCount table l = (table.filter fun r => r.owner = l).length :=
  List.countP_eq_length_filter

/-- The records that the owner and the tag do not name, in the claims' words. -/
theorem filter_not_named (table : List Limit) (l : Link) (tag : Nat) :
    table.filter (fun r => !r.named l tag) = table.filter fun r => ¬ (r.owner = l ∧ r.tag = tag) :=
  List.filter_congr fun r _ => by rw [decide_not, Bool.decide_and, Limit.named]

/-- No passes remain exactly to a record without a lifetime to count (R55, R67). -/
theorem Limit.Ok.remaining_eq_zero_iff {r : Limit} (h : r.Ok) : r.remaining = 0 ↔ r.lifetime = 0 := by
  obtain ⟨-, -, -, most, least⟩ := h
  omega

/-- In a sound table one record has its owner and tag: without it the records after it close up, and no other
goes (R56, R57). -/
theorem LimitsOk.filter_other {table : List Limit} {r : Limit} (h : LimitsOk table) (hr : r ∈ table) :
    ∃ front behind, table = front ++ r :: behind ∧
      table.filter (fun q => ¬ (q.owner = r.owner ∧ q.tag = r.tag)) = front ++ behind := by
  obtain ⟨-, -, distinct, -⟩ := h
  obtain ⟨front, behind, rfl⟩ := List.append_of_mem hr
  obtain ⟨-, after, across⟩ := List.pairwise_append.1 distinct
  have inFront : ∀ q ∈ front, ¬ (q.owner = r.owner ∧ q.tag = r.tag) := fun q hq => across q hq r List.mem_cons_self
  have inBehind : ∀ q ∈ behind, ¬ (q.owner = r.owner ∧ q.tag = r.tag) := fun q hq same =>
    (List.pairwise_cons.1 after).1 q hq ⟨same.1.symm, same.2.symm⟩
  refine ⟨front, behind, rfl, ?_⟩
  rw [List.filter_append, List.filter_cons_of_neg (by simp),
    List.filter_eq_self.2 fun q hq => decide_eq_true (inFront q hq),
    List.filter_eq_self.2 fun q hq => decide_eq_true (inBehind q hq)]

/-- The removal takes one record from the table and one from its owner. -/
theorem LimitsOk.counts_filter_other {table : List Limit} {l : Link} {tag : Nat} (h : LimitsOk table)
    (present : ∃ r ∈ table, r.owner = l ∧ r.tag = tag) :
    let rest := table.filter fun q => ¬ (q.owner = l ∧ q.tag = tag)
    rest.length + 1 = table.length ∧ ownerCount rest l + 1 = ownerCount table l := by
  obtain ⟨r, hr, rfl, rfl⟩ := present
  obtain ⟨front, behind, cut, rest⟩ := h.filter_other hr
  rw [rest, cut]
  simp only [ownerCount, List.length_append, List.length_cons, List.countP_append, List.countP_cons, decide_true, if_true]
  omega

/-- A pass is started with the table as it stands (R1, R62). -/
theorem State.copy_limits_of_takeBoundary {s : State} {time : Time} {x : Pass}
    (h : (s.takeBoundary time).ale.pass = some x) : x.copy.limits = s.limits := by
  obtain ⟨y, started, -, -, -, -, -, limits, -⟩ := s.takeBoundary_pass time
  rw [started] at h
  exact Option.some.inj h ▸ limits

/-! ### LIMIT_WITHDRAW (R65) -/

section
variable {l : Link} {p : List Byte}

theorem withdrawLimit_of_bad_tag (h : 15 < u8 p 0) (s : State) :
    withdrawLimit l p s = (s, some (bare .badField)) := by
  simp [withdrawLimit, h]

theorem withdrawLimit_of_absent {s : State} (htag : u8 p 0 ≤ 15)
    (h : ∀ r ∈ s.limits, ¬ (r.owner = l ∧ r.tag = u8 p 0)) :
    withdrawLimit l p s = (s, some (bare .notFound)) := by
  have absent : ¬ s.limits.any (fun r => r.named l (u8 p 0)) = true := by
    rw [any_named_iff]
    exact fun ⟨r, hr, same⟩ => h r hr same
  unfold withdrawLimit
  dsimp only
  rw [if_neg (by omega), if_neg absent]

theorem withdrawLimit_of_present {s : State} (htag : u8 p 0 ≤ 15) (h : ∃ r ∈ s.limits, r.owner = l ∧ r.tag = u8 p 0) :
    let rest := s.limits.filter fun r => ¬ (r.owner = l ∧ r.tag = u8 p 0)
    withdrawLimit l p s =
      ({ s with limits := rest },
       some { status := .ok, data := byte1 (rest.filter fun r => r.owner = l).length ++ byte1 rest.length }) := by
  unfold withdrawLimit
  dsimp only
  rw [if_neg (by omega), if_pos (any_named_iff.2 h), filter_not_named, ownerCount_eq_length]

end

/-- Settles O23: the three judgments; a record found is the only one of its owner and tag, so that the counts go
down by one; and the next pass copies what is left. -/
theorem limitWithdrawJudged : Obligations.LimitWithdrawJudged := by
  unfold Obligations.LimitWithdrawJudged
  intro s l f h hp ok tag table
  refine ⟨fun bad => ?_, fun htag absent => ?_, fun htag present => ?_⟩
  · exact serve_unchanged h hp (withdrawLimit_of_bad_tag bad _)
  · exact serve_unchanged h hp (withdrawLimit_of_absent htag absent)
  · refine ⟨_, serve_limits_changed h hp (withdrawLimit_of_present htag present), rfl, ?_⟩
    obtain ⟨total, held⟩ : table.length + 1 = s.limits.length ∧ ownerCount table l + 1 = ownerCount s.limits l :=
      ok.counts_filter_other present
    obtain ⟨atMost16, atMost4, -, -⟩ := ok
    have atMost3 : ownerCount table l ≤ 3 := by
      have := atMost4 l
      omega
    refine ⟨ownerCount_eq_length table l ▸ atMost3, total, by omega, fun q hq other => ?_, fun time x started => ?_⟩
    · exact List.mem_filter.2 ⟨hq, by simpa [imp_iff_not_or] using other⟩
    · have copied : x.copy.limits = table := State.copy_limits_of_takeBoundary started
      refine ⟨copied, fun q hq => ?_⟩
      rw [copied] at hq
      exact of_decide_eq_true (List.mem_filter.1 hq).2

/-! ### LIMIT_LIST (R67) -/

section
variable {l : Link} {p : List Byte} {s : State}

theorem listLimit_of_record {r : Limit} (h : s.limits[u8 p 0]? = some r) :
    listLimit l p s = (s, some { status := .ok, data :=
      [BitVec.ofNat 8 s.limits.length, BitVec.ofNat 8 r.owner.number, BitVec.ofNat 8 r.tag, BitVec.ofNat 8 r.axle.code,
       BitVec.ofNat 8 r.kind.code, BitVec.ofNat 8 r.value, BitVec.ofNat 8 (r.value / 256), BitVec.ofNat 8 r.remaining,
       BitVec.ofNat 8 (if u8 p 0 + 1 < s.limits.length then u8 p 0 + 1 else 255)] }) := by
  simp [listLimit, h, byte1, nat2_eq]

theorem listLimit_of_length_le (h : s.limits.length ≤ u8 p 0) :
    listLimit l p s = (s, some { status := .notFound, data := [BitVec.ofNat 8 s.limits.length] }) := by
  simp [listLimit, List.getElem?_eq_none h, byte1]

end

/-- Settles O24: the record at the position, or none; a sound table bounds the count and the record's passes. -/
theorem limitListAnswered : Obligations.LimitListAnswered := by
  unfold Obligations.LimitListAnswered
  intro s l f h hp ok i count
  obtain ⟨atMost16, -, -, sound⟩ := ok
  refine ⟨atMost16, fun r hr => ?_, fun past => ?_, fun st data => s.answered_limits l f st data⟩
  · have member : r ∈ s.limits := List.mem_of_getElem? hr
    exact ⟨List.length_pos_of_mem member, (sound r member).remaining_eq_zero_iff,
      serve_unchanged_with_data h hp (listLimit_of_record hr)⟩
  · exact serve_unchanged_with_data h hp (listLimit_of_length_le past)

end Sys2Proof.Machine
end

section
/-! SUPPORT. Allocator Control's request CONFIG_READ: what it answers for an index out of range and for the
index of a parameter, and the proof of O33. -/

namespace Sys2Proof.Machine

section
variable {p : List Byte}

theorem readConfig_of_bad_index (h : 22 < u8 p 0) (l : Link) (s : State) :
    readConfig l p s = (s, some (bare .badField)) := by
  simp [readConfig, Param.ofIndex_none h]

/-- The index of a parameter is answered with its two values and the flag; the active value stands in for a
pending one that is not there (R139). -/
theorem readConfig_of_index {q : Param} (h : q.index.val = u8 p 0) (l : Link) (s : State) :
    let active := s.act.active.val q
    let shown := (s.act.pendingOf q).getD active
    readConfig l p s = (s, some { status := .ok, data :=
      [BitVec.ofNat 8 q.index.val, BitVec.ofNat 8 active, BitVec.ofNat 8 (active / 256), BitVec.ofNat 8 shown,
       BitVec.ofNat 8 (shown / 256), BitVec.ofNat 8 (s.act.pendingOf q).isSome.toNat] }) := by
  simp [readConfig, ← h, Param.ofIndex_index, byte1, nat2_eq]

end

/-- Settles O33: an index names no parameter or one, and that one's value is pending or not; the owner changes
nothing, and the answer leaves Allocator Control as it is. -/
theorem configReadAnswered : Obligations.ConfigReadAnswered := by
  unfold Obligations.ConfigReadAnswered
  intro s l f h hp
  refine ⟨fun bad => ?_, fun q hq => ?_, fun st data => s.answered_act l f st data⟩
  · exact serve_unchanged h hp (readConfig_of_bad_index bad l _)
  · have answer : exec .configRead s = _ := serve_unchanged_with_data h hp (readConfig_of_index hq l _)
    cases pending : s.act.pendingOf q with
    | none => simpa [pending] using answer
    | some v => simpa [pending] using answer

end Sys2Proof.Machine
end

section
/-! SUPPORT. Frames as bytes and back (R150), and the proof of O13. -/

namespace Sys2Proof

/-- The bytes of a frame that fits pass the test of R150. -/
theorem Frame.goodBytes_bytes {f : Frame} (h : f.WellFormed) : GoodBytes f.bytes := by
  have length : (f.bytes.getD 1 0).toNat = f.payload.length := Frame.lengthByte_toNat h
  refine ⟨by rw [f.bytes_length]; omega, by rw [length]; exact h, ?_, f.byteSum_bytes⟩
  rw [f.bytes_length, length]

theorem Frame.ofBytes_bytes {f : Frame} (h : f.WellFormed) : Frame.ofBytes f.bytes = some f := by
  rw [Frame.ofBytes, if_pos (Frame.goodBytes_bytes h)]
  have payload : (f.bytes.drop 2).dropLast = f.payload := List.dropLast_concat
  rw [payload]
  simp [Frame.bytes]

/-- Bytes that begin with a header and a length byte, and what the test of R150 asks of the rest. -/
theorem goodBytes_cons_iff {h len : Byte} {rest : List Byte} :
    GoodBytes (h :: len :: rest) ↔
      len.toNat ≤ 16 ∧ rest.length = len.toNat + 1 ∧ byteSum (h :: len :: rest) = 0 := by
  simp only [GoodBytes, List.length_cons, List.getD_cons_succ, List.getD_cons_zero]
  constructor
  · rintro ⟨-, fits, length, sum⟩
    exact ⟨fits, by omega, sum⟩
  · rintro ⟨fits, length, sum⟩
    exact ⟨by omega, fits, by omega, sum⟩

/-- The last byte of bytes that sum to 0 is the check byte of those before it (R150). -/
theorem eq_check_of_byteSum_eq_zero {front : List Byte} {last : Byte} (h : byteSum (front ++ [last]) = 0) :
    last = -(byteSum front) := by
  rw [byteSum_append, byteSum_cons, byteSum_nil] at h
  exact eq_neg_of_add_eq_zero_right (by rwa [add_zero] at h)

/-- Bytes that pass the test are the bytes of the frame they spell (R150). -/
theorem Frame.bytes_of_ofBytes {bs : List Byte} {f : Frame} (h : Frame.ofBytes bs = some f) :
    f.WellFormed ∧ f.bytes = bs ∧ GoodBytes bs := by
  unfold Frame.ofBytes at h
  split at h
  case isFalse => cases h
  case isTrue good =>
    cases h
    match bs, good with
    | [], good => exact absurd good.1 (by simp)
    | [_], good => exact absurd good.1 (by simp)
    | b :: len :: rest, good =>
      obtain ⟨fits, length, sum⟩ := goodBytes_cons_iff.1 good
      obtain ⟨payload, last, rfl⟩ := List.eq_nil_or_concat rest |>.resolve_left (by rintro rfl; simp at length)
      simp only [List.concat_eq_append, List.length_append, List.length_singleton, Nat.add_right_cancel_iff] at length sum good ⊢
      simp only [List.drop_succ_cons, List.drop_zero, List.dropLast_concat, List.getD_cons_zero]
      have lengthByte : BitVec.ofNat 8 payload.length = len := by rw [length, BitVec.ofNat_toNat, BitVec.setWidth_eq]
      refine ⟨length.trans_le fits, ?_, good⟩
      have check := eq_check_of_byteSum_eq_zero (front := b :: len :: payload) sum
      simp only [Frame.bytes, Frame.check, Frame.header, Frame.lengthByte, header_of_bits, lengthByte, ← check]

/-- The test of R150 fails for bytes whose sum is not 0 modulo 256. -/
theorem Frame.ofBytes_eq_none {bs : List Byte} (h : (bs.map BitVec.toNat).sum % 256 ≠ 0) : Frame.ofBytes bs = none := by
  rw [Frame.ofBytes, if_neg]
  rintro ⟨-, -, -, sum⟩
  exact h (by rw [← byteSum_toNat, sum]; rfl)

/-- Bytes of the right number whose sum is 0 modulo 256 spell a frame (R150). -/
theorem Frame.exists_of_sum {h len : Byte} {rest : List Byte} (fits : len.toNat ≤ 16) (length : rest.length = len.toNat + 1)
    (sum : ((h :: len :: rest).map BitVec.toNat).sum % 256 = 0) :
    ∃ f : Frame, Frame.ofBytes (h :: len :: rest) = some f := by
  have good : GoodBytes (h :: len :: rest) :=
    goodBytes_cons_iff.2 ⟨fits, length, BitVec.eq_of_toNat_eq (by rw [byteSum_toNat, sum]; rfl)⟩
  exact ⟨_, by rw [Frame.ofBytes, if_pos good]⟩

/-- Settles O13: the two halves, and the test's sum as a number. -/
theorem frameBytesRoundTrip : Obligations.FrameBytesRoundTrip := by
  unfold Obligations.FrameBytesRoundTrip
  refine ⟨fun f => Frame.ofBytes_bytes, fun bs f h => ?_⟩
  obtain ⟨wellFormed, bytes, -, -, -, sum⟩ := Frame.bytes_of_ofBytes h
  exact ⟨wellFormed, bytes, by rw [← byteSum_toNat, sum]; rfl⟩

end Sys2Proof
end

section
/-! SUPPORT. The receive side of a link: the framer's judgments, what keeps a link sound, and the proofs of
O7 to O10. -/

namespace Sys2Proof.Machine

/-! ### The guards of a command -/

theorem State.live_of_run {s : State} (h : s.inReset = false) (f : State → State) : s.live f = f s := by
  simp [State.live, h]

theorem State.live_of_reset {s : State} (h : s.inReset = true) (f : State → State) : s.live f = s := by
  simp [State.live, h]

@[simp] theorem State.when_true (s : State) (f : State → State) : s.when true f = f s := rfl

@[simp] theorem State.when_false (s : State) (f : State → State) : s.when false f = s := rfl

/-! ### The framer (R167 to R171) -/

/-- The count of a bad frame, written out (R171). -/
theorem Liu.countBad_eq_withBad {u : Liu} (h : u.badCount ≤ 8) : u.countBad = u.withBad := by
  unfold Liu.countBad Liu.withBad
  split_ifs with eighth fewer
  · simp [eighth]
  · simp [eighth]; omega
  · have full : u.badCount = 8 := by omega
    cases u
    simp_all

/-- What the count of a bad frame leaves alone. -/
theorem Liu.countBad_frame (u : Liu) : u.countBad = { u with
    badCount := u.countBad.badCount, faulted := u.countBad.faulted
    linkEvent := u.linkEvent || decide (u.badCount = 7) } := by
  unfold Liu.countBad
  split_ifs with eighth fewer <;> simp [*]

theorem Liu.abandonBad_eq (u : Liu) : u.abandonBad = u.countBad.hunting := rfl

/-- A good frame, written out (R170). -/
theorem Liu.takeGood_eq (u : Liu) (f : Frame) : u.takeGood f =
    { u with
        badCount := 0, faulted := false, assembly := [], gap := none
        framer := if u.rxQueue.length < 2 then .hunt else .overrun
        rxQueue := if u.rxQueue.length < 2 then u.rxQueue ++ [f] else u.rxQueue
        linkEvent := u.linkEvent || decide (2 ≤ u.rxQueue.length) } := by
  unfold Liu.takeGood
  split_ifs with room
  · simp [Nat.not_le.2 room]
  · simp [Nat.le_of_not_lt room]

/-- A byte that does not complete the frame in assembly is added to it (R168, row 4). -/
theorem Liu.addByte_of_incomplete {u : Liu} {data : Byte}
    (h : (u.assembly ++ [data]).length ≠ ((u.assembly ++ [data]).getD 1 0).toNat + 3) :
    u.addByte data = { u with assembly := u.assembly ++ [data], gap := some 0 } := if_neg h

/-- A byte that completes a good frame hands it on (R170). -/
theorem Liu.addByte_of_good {u : Liu} {data : Byte} {f : Frame} (h : Frame.ofBytes (u.assembly ++ [data]) = some f) :
    u.addByte data = u.takeGood f := by
  obtain ⟨-, -, -, -, complete, -⟩ := Frame.bytes_of_ofBytes h
  unfold Liu.addByte
  rw [if_pos complete]
  simp only [h]

/-- A byte that completes bytes that spell no frame abandons them (R170). -/
theorem Liu.addByte_of_bad {u : Liu} {data : Byte}
    (complete : (u.assembly ++ [data]).length = ((u.assembly ++ [data]).getD 1 0).toNat + 3)
    (h : Frame.ofBytes (u.assembly ++ [data]) = none) : u.addByte data = u.abandonBad := by
  unfold Liu.addByte
  rw [if_pos complete]
  simp only [h]

section
variable {u : Liu} {data : Byte} {marker err : Bool}

theorem Liu.takeByte_of_overrun (h : u.framer = .overrun) : u.takeByte data marker err = u := by
  simp [Liu.takeByte, h]

/-- In HUNT only a marked byte without a stop-bit error begins a frame (R168, rows 1 and 2). -/
theorem Liu.takeByte_of_hunt (h : u.framer = .hunt) :
    u.takeByte data marker err = if marker && !err then u.beginFrame data else u := by
  simp [Liu.takeByte, h]

theorem Liu.takeByte_of_error (h : u.framer = .inFrame) : u.takeByte data marker true = u.abandonBad := by
  simp [Liu.takeByte, h]

theorem Liu.takeByte_of_marker (h : u.framer = .inFrame) : u.takeByte data true false = u.countBad.beginFrame data := by
  simp [Liu.takeByte, h]

theorem Liu.takeByte_of_long (h : u.framer = .inFrame) (one : u.assembly.length = 1) (long : 16 < data.toNat) :
    u.takeByte data false false = u.abandonBad := by
  simp [Liu.takeByte, h, one, long]

theorem Liu.takeByte_of_fitting (h : u.framer = .inFrame) (fits : u.assembly.length = 1 → data.toNat ≤ 16) :
    u.takeByte data false false = u.addByte data := by
  have : ¬ (u.assembly.length = 1 ∧ 16 < data.toNat) := fun ⟨one, long⟩ => by have := fits one; omega
  simp [Liu.takeByte, h, this]

end

/-! ### What keeps a link sound -/

section
variable {u : Liu} {l : Link}

theorem Liu.Ok.hunting (h : u.Ok l) : u.hunting.Ok l := by
  obtain ⟨rx, tx, wellFormed, count, faulted, -, -, -, idle⟩ := h
  exact ⟨rx, tx, wellFormed, count, faulted, by simp [Liu.hunting], by simp [Liu.hunting], by simp [Liu.hunting], idle⟩

theorem Liu.Ok.countBad (h : u.Ok l) : u.countBad.Ok l := by
  obtain ⟨rx, tx, wellFormed, count, faulted, rest⟩ := h
  unfold Liu.countBad
  split_ifs with eighth fewer
  · exact ⟨rx, tx, wellFormed, le_rfl, fun _ => rfl, rest⟩
  · exact ⟨rx, tx, wellFormed, by simp only; omega, fun full => absurd full (by simp only; omega), rest⟩
  · exact ⟨rx, tx, wellFormed, count, faulted, rest⟩

theorem Liu.Ok.abandonBad (h : u.Ok l) : u.abandonBad.Ok l := h.countBad.hunting

theorem Liu.Ok.beginFrame (h : u.Ok l) (data : Byte) : (u.beginFrame data).Ok l := by
  obtain ⟨rx, tx, wellFormed, count, faulted, -, -, -, idle⟩ := h
  exact ⟨rx, tx, wellFormed, count, faulted, by simp [Liu.beginFrame], by simp [Liu.beginFrame], fun _ => rfl, idle⟩

theorem Liu.Ok.takeGood (h : u.Ok l) {f : Frame} (fits : f.WellFormed) : (u.takeGood f).Ok l := by
  obtain ⟨rx, tx, wellFormed, -, -, -, -, -, idle⟩ := h
  rw [Liu.takeGood_eq]
  refine ⟨?_, tx, ?_, Nat.zero_le _, by simp, ?_, by simp, by simp, idle⟩
  · dsimp only
    split_ifs with room
    · simp; omega
    · exact rx
  · dsimp only
    split_ifs with room
    · simpa [or_imp, forall_and] using ⟨wellFormed, fits⟩
    · exact wellFormed
  · dsimp only
    split_ifs <;> simp

/-- The bytes in assembly grow up to the length their length byte gives (R168). -/
theorem Liu.Ok.addByte (h : u.Ok l) (inFrame : u.framer = .inFrame) {data : Byte}
    (fits : u.assembly.length = 1 → data.toNat ≤ 16) : (u.addByte data).Ok l := by
  by_cases complete : (u.assembly ++ [data]).length = ((u.assembly ++ [data]).getD 1 0).toNat + 3
  · cases spelled : Frame.ofBytes (u.assembly ++ [data]) with
    | some f => rw [Liu.addByte_of_good spelled]; exact h.takeGood (Frame.bytes_of_ofBytes spelled).1
    | none => rw [Liu.addByte_of_bad complete spelled]; exact h.abandonBad
  · rw [Liu.addByte_of_incomplete complete]
    obtain ⟨rx, tx, wellFormed, count, faulted, begun, unfinished, -, idle⟩ := h
    refine ⟨rx, tx, wellFormed, count, faulted, by simp [inFrame], fun _ => ?_, fun _ => inFrame, idle⟩
    have nonempty := begun.1 inFrame
    dsimp only
    match e : u.assembly with
    | [] => contradiction
    | [b] =>
      have small := fits (by rw [e]; rfl)
      simp only [List.cons_append, List.nil_append, List.length_cons, List.length_nil, List.getD_cons_succ, List.getD_cons_zero]
      omega
    | b :: len :: rest =>
      rw [e] at unfinished complete
      have room := unfinished (by simp)
      simp only [List.cons_append, List.length_cons, List.length_append, List.getD_cons_succ,
        List.getD_cons_zero, List.length_nil] at room complete ⊢
      omega

/-- Every byte keeps a link sound, row by row of R168. -/
theorem Liu.Ok.takeByte (h : u.Ok l) (data : Byte) (marker err : Bool) : (u.takeByte data marker err).Ok l := by
  cases framer : u.framer with
  | overrun => rwa [Liu.takeByte_of_overrun framer]
  | hunt =>
    rw [Liu.takeByte_of_hunt framer]
    split_ifs
    · exact h.beginFrame data
    · exact h
  | inFrame =>
    cases err with
    | true => rw [Liu.takeByte_of_error framer]; exact h.abandonBad
    | false =>
      cases marker with
      | true => rw [Liu.takeByte_of_marker framer]; exact h.countBad.beginFrame data
      | false =>
        by_cases long : u.assembly.length = 1 ∧ 16 < data.toNat
        · rw [Liu.takeByte_of_long framer long.1 long.2]; exact h.abandonBad
        · have fits : u.assembly.length = 1 → data.toNat ≤ 16 := fun one => Nat.le_of_not_lt fun more => long ⟨one, more⟩
          rw [Liu.takeByte_of_fitting framer fits]; exact h.addByte framer fits

theorem Liu.startBit_of_inFrame (h : u.framer = .inFrame) : u.startBit = { u with gap := none } := by
  simp [Liu.startBit, h]

theorem Liu.startBit_of_not_inFrame (h : u.framer ≠ .inFrame) : u.startBit = u := by
  cases framer : u.framer with
  | inFrame => exact absurd framer h
  | hunt => simp [Liu.startBit, framer]
  | overrun => simp [Liu.startBit, framer]

theorem Liu.Ok.startBit (h : u.Ok l) : u.startBit.Ok l := by
  by_cases framer : u.framer = .inFrame
  · rw [Liu.startBit_of_inFrame framer]
    obtain ⟨rx, tx, wellFormed, count, faulted, begun, unfinished, -, idle⟩ := h
    exact ⟨rx, tx, wellFormed, count, faulted, begun, unfinished, fun none => absurd rfl none, idle⟩
  · rwa [Liu.startBit_of_not_inFrame framer]

theorem Liu.takeBreak_ok (u : Liu) (l : Link) : u.takeBreak.Ok l := by
  unfold Liu.takeBreak
  simp [Liu.Ok, TxQueueOk]

end

/-! ### Bytes as commands -/

section
variable {s : State} (run : s.inReset = false) (l : Link)
include run

theorem exec_byteTaken (data : Byte) (marker err : Bool) :
    exec (.byteTaken l data marker err) s = .next (s.modLiu l fun u => u.takeByte data marker err) :=
  congrArg _ (State.live_of_run run _)

theorem exec_startBitConfirmed : exec (.startBitConfirmed l) s = .next (s.modLiu l Liu.startBit) :=
  congrArg _ (State.live_of_run run _)

theorem exec_gapExpiry :
    exec (.gapExpiry l) s = .next (s.when (s.liuOf l).gapDone fun s => s.modLiu l Liu.abandonBad) :=
  congrArg _ (State.live_of_run run _)

theorem exec_linkBreak : exec (.linkBreak l) s = .next (s.modLiu l Liu.takeBreak) :=
  congrArg _ (State.live_of_run run _)

end

/-- The bytes after a header, taken in turn. -/
def Liu.takeBytes (u : Liu) (bytes : List Byte) : Liu := bytes.foldl (fun v b => v.takeByte b false false) u

theorem runAll_byteTaken {s : State} (run : s.inReset = false) (l : Link) (bytes : List Byte) :
    runAll (bytes.map fun b => .byteTaken l b false false) s = some (s.modLiu l fun u => u.takeBytes bytes) := by
  induction bytes generalizing s with
  | nil => simp [runAll, Liu.takeBytes]
  | cons b bytes ih =>
    rw [List.map_cons, runAll, exec_byteTaken run]
    dsimp only
    rw [ih (by exact run), State.modLiu_modLiu]
    rfl

/-! ### A frame that arrives (R150, R167, R170) -/

theorem Liu.takeBytes_of_overrun {u : Liu} (h : u.framer = .overrun) (bytes : List Byte) : u.takeBytes bytes = u := by
  induction bytes with
  | nil => rfl
  | cons b bytes ih => rw [Liu.takeBytes, List.foldl_cons, Liu.takeByte_of_overrun h]; exact ih

/-- Two bytes or more of a frame have its length byte second (R150). -/
theorem second_byte_of_frame {f : Frame} {front behind : List Byte} {b : Byte} (begun : front ≠ [])
    (whole : front ++ b :: behind = f.bytes) : (front ++ [b]).getD 1 0 = f.lengthByte := by
  have second : (front ++ b :: behind).getD 1 0 = f.lengthByte := by rw [whole]; rfl
  match front, begun with
  | [_], _ => exact second
  | _ :: _ :: _, _ => exact second

/-- The bytes that are missing of a frame complete it. The induction is over them: each but the last is added,
since the length byte tells that the frame goes on. -/
theorem Liu.takeBytes_completes {f : Frame} (fits : f.WellFormed) {u : Liu} (framer : u.framer = .inFrame)
    {bytes : List Byte} (begun : u.assembly ≠ []) (missing : bytes ≠ []) (whole : u.assembly ++ bytes = f.bytes) :
    u.takeBytes bytes = u.takeGood f := by
  induction bytes generalizing u with
  | nil => contradiction
  | cons b bytes ih =>
    have count : u.assembly.length + (bytes.length + 1) = f.payload.length + 3 := by
      rw [← f.bytes_length, ← whole, List.length_append, List.length_cons]
    have lengthByte : ((u.assembly ++ [b]).getD 1 0).toNat = f.payload.length := by
      rw [second_byte_of_frame begun whole, Frame.lengthByte_toNat fits]
    have small : u.assembly.length = 1 → b.toNat ≤ 16 := by
      intro one
      obtain ⟨c, e⟩ := List.length_eq_one_iff.1 one
      rw [e] at lengthByte
      exact le_of_eq_of_le lengthByte fits
    rw [Liu.takeBytes, List.foldl_cons, Liu.takeByte_of_fitting framer small]
    cases bytes with
    | nil => exact Liu.addByte_of_good (by rw [whole]; exact Frame.ofBytes_bytes fits)
    | cons c bytes =>
      have goesOn : (u.assembly ++ [b]).length ≠ ((u.assembly ++ [b]).getD 1 0).toNat + 3 := by
        rw [lengthByte]
        simp only [List.length_append, List.length_cons, List.length_nil] at count ⊢
        omega
      rw [Liu.addByte_of_incomplete goesOn]
      have := ih (u := { u with assembly := u.assembly ++ [b], gap := some 0 }) framer (by simp) (by simp) (by simpa using whole)
      exact this.trans (by simp only [Liu.takeGood_eq])

/-- The whole frame, header first, from HUNT or over a frame cut short (R167, R168, R170). -/
theorem Liu.takeBytes_header {f : Frame} (fits : f.WellFormed) {u : Liu} (h : u.framer ≠ .overrun) :
    (u.takeByte f.header true false).takeBytes (f.lengthByte :: (f.payload ++ [f.check])) =
      { u with
          badCount := 0, faulted := false, assembly := [], gap := none
          framer := if u.rxQueue.length < 2 then .hunt else .overrun
          rxQueue := if u.rxQueue.length < 2 then u.rxQueue ++ [f] else u.rxQueue
          linkEvent := u.linkEvent || decide (u.framer = .inFrame ∧ u.badCount = 7) ||
            decide (2 ≤ u.rxQueue.length) } := by
  have begun : ∀ v : Liu, (v.beginFrame f.header).takeBytes (f.lengthByte :: (f.payload ++ [f.check])) = v.takeGood f :=
    fun v => (Liu.takeBytes_completes fits rfl (by simp [Liu.beginFrame]) (by simp) rfl).trans
      (by simp only [Liu.takeGood_eq, Liu.beginFrame])
  cases framer : u.framer with
  | overrun => contradiction
  | hunt =>
    rw [Liu.takeByte_of_hunt framer]
    simp [begun, Liu.takeGood_eq]
  | inFrame =>
    rw [Liu.takeByte_of_marker framer, begun, Liu.countBad_frame, Liu.takeGood_eq]
    simp

/-- Settles O7: the header begins the frame, the bytes after it complete it. -/
theorem frameBytesJoinReceiveQueue : Obligations.FrameBytesJoinReceiveQueue := by
  unfold Obligations.FrameBytesJoinReceiveQueue
  intro s l f run fits
  have arrived : runAll (f.arrival l) s = some (s.modLiu l fun u =>
      (u.takeByte f.header true false).takeBytes (f.lengthByte :: (f.payload ++ [f.check]))) := by
    rw [Frame.arrival, runAll, exec_byteTaken run]
    dsimp only
    rw [runAll_byteTaken (by exact run), State.modLiu_modLiu]
  refine ⟨fun framer => ?_, fun overrun => ?_⟩
  · rw [arrived]
    exact congrArg some (State.modLiu_congr s l (Liu.takeBytes_header fits framer))
  · have stays : (s.liuOf l).takeByte f.header true false = s.liuOf l := Liu.takeByte_of_overrun overrun
    rw [arrived, State.modLiu_congr s l (h := fun u => u) (by rw [stays, Liu.takeBytes_of_overrun overrun]), State.modLiu_id]

/-- Settles O8: the rows of R168's table, and the test of a complete frame. -/
theorem framerJudgesEachByte : Obligations.FramerJudgesEachByte := by
  unfold Obligations.FramerJudgesEachByte
  intro s l data marker err run count
  have becomes : ∀ (g : Liu → Liu), (s.liuOf l).takeByte data marker err = g (s.liuOf l) →
      exec (.byteTaken l data marker err) s = .next (s.modLiu l g) := fun g e => by
    rw [exec_byteTaken run, State.modLiu_congr s l e]
  have stays : (s.liuOf l).takeByte data marker err = s.liuOf l → exec (.byteTaken l data marker err) s = .next s :=
    fun e => by rw [becomes (fun u => u) e, State.modLiu_id]
  have bad : (s.liuOf l).abandonBad = (s.liuOf l).withBad.hunting := by
    rw [Liu.abandonBad_eq, Liu.countBad_eq_withBad count]
  refine ⟨?_, ?_, ?_, ?_, ?_, ?_, ?_⟩
  · rintro hunt rfl rfl
    exact becomes _ (Liu.takeByte_of_hunt hunt)
  · intro hunt unmarked
    refine stays ((Liu.takeByte_of_hunt hunt).trans (if_neg ?_))
    obtain rfl | rfl := unmarked <;> simp
  · exact fun overrun => stays (Liu.takeByte_of_overrun overrun)
  · rintro framer rfl
    exact becomes (fun u => u.withBad.hunting) ((Liu.takeByte_of_error framer).trans bad)
  · rintro framer rfl rfl
    refine becomes (fun u => { u.withBad with assembly := [data], gap := some 0 }) ((Liu.takeByte_of_marker framer).trans ?_)
    rw [Liu.countBad_eq_withBad count]
    simp only [Liu.beginFrame, Liu.withBad, framer]
  · rintro framer rfl rfl one long
    exact becomes (fun u => u.withBad.hunting) ((Liu.takeByte_of_long framer one long).trans bad)
  · rintro h len bytes framer rfl rfl spelled fits
    have short : (s.liuOf l).assembly.length = 1 → data.toNat ≤ 16 := by
      intro one
      obtain ⟨c, e⟩ := List.length_eq_one_iff.1 one
      rw [e] at spelled
      cases spelled
      exact fits
    have added := Liu.takeByte_of_fitting framer short
    have length : (h :: len :: bytes).length = ((h :: len :: bytes).getD 1 0).toNat + 3 ↔ bytes.length = len.toNat + 1 := by
      simp only [List.length_cons, List.getD_cons_succ, List.getD_cons_zero]
      omega
    refine ⟨fun fewer => ?_, fun complete sum => ?_, fun complete sum => ?_⟩
    · refine becomes _ (added.trans (Liu.addByte_of_incomplete ?_) |>.trans (by rw [spelled]))
      rw [spelled, Ne, length]
      omega
    · refine becomes (fun u => u.withBad.hunting) ((added.trans (Liu.addByte_of_bad ?_ ?_)).trans bad)
      · rw [spelled, length]; exact complete
      · rw [spelled]; exact Frame.ofBytes_eq_none sum
    · obtain ⟨f, hf⟩ := Frame.exists_of_sum fits complete sum
      refine ⟨f, (Frame.bytes_of_ofBytes hf).2.1, becomes _ ((added.trans (Liu.addByte_of_good ?_)).trans (Liu.takeGood_eq _ f))⟩
      rw [spelled, hf]

/-! ### The gap timer and the break (R169, R172) -/

/-- When the gap timer is over (R169). -/
theorem Liu.gapDone_iff {u : Liu} : u.gapDone = true ↔ u.framer = .inFrame ∧ ∃ n, u.gap = some n ∧ 1320 ≤ n := by
  unfold Liu.gapDone
  cases u.framer <;> cases u.gap <;> simp [gapClocks, clocksPerMicro]

/-- Settles O9: each of the two leaves what the other does not act on. -/
theorem startBitOrGapExpiry : Obligations.StartBitOrGapExpiry := by
  unfold Obligations.StartBitOrGapExpiry
  intro s l run
  have start : (s.liuOf l).framer = .inFrame →
      exec (.startBitConfirmed l) s = .next (s.modLiu l fun u => { u with gap := none }) := fun framer => by
    rw [exec_startBitConfirmed run]
    exact congrArg _ (State.modLiu_congr s l (Liu.startBit_of_inFrame framer))
  refine ⟨start, fun framer => ?_, fun n count framer gap long => ?_⟩
  · rw [exec_startBitConfirmed run, State.modLiu_congr s l (h := fun u => u) (Liu.startBit_of_not_inFrame framer), State.modLiu_id]
  · have done : (s.liuOf l).gapDone = true := Liu.gapDone_iff.2 ⟨framer, n, gap, long⟩
    have bad : (s.liuOf l).abandonBad = (s.liuOf l).withBad.hunting := by
      rw [Liu.abandonBad_eq, Liu.countBad_eq_withBad count]
    have expiry : exec (.gapExpiry l) s = .next (s.modLiu l fun u => u.withBad.hunting) := by
      rw [exec_gapExpiry run, done, State.when_true]
      exact congrArg _ (State.modLiu_congr s l bad)
    refine ⟨expiry, ?_, ?_⟩
    · have stopped : ((s.modLiu l fun u => { u with gap := none }).liuOf l).gapDone = false := by
        rw [State.liuOf_modLiu_same, ← Bool.not_eq_true, Liu.gapDone_iff]
        simp
      simp only [runAll, start framer]
      rw [exec_gapExpiry (by exact run), stopped, State.when_false]
    · have hunting : ((s.modLiu l fun u => u.withBad.hunting).liuOf l).startBit = (s.modLiu l fun u => u.withBad.hunting).liuOf l := by
        rw [State.liuOf_modLiu_same]
        exact Liu.startBit_of_not_inFrame (by simp [Liu.hunting])
      simp only [runAll, expiry]
      rw [exec_startBitConfirmed (by exact run), State.modLiu_congr _ l (h := fun u => u) hunting, State.modLiu_id]

end Sys2Proof.Machine
end

section
/-! SUPPORT. The arbiter's choice and the transmit side of a link: what is served, how a frame begins, what a
queue may hold, and the proofs of O10, O11, O14 and O17. -/

namespace Sys2Proof.Machine

/-! ### The arbiter's choice (R153, R154) -/

/-- Among elements in the order of their keys, the first that passes has no lesser one that passes. -/
theorem find?_eq_some_iff_of_pairwise {α : Type} {e : α → Bool} {key : α → Nat} {xs : List α}
    (sorted : xs.Pairwise fun x y => key x < key y) {l : α} (mem : l ∈ xs) :
    xs.find? e = some l ↔ e l = true ∧ ∀ m ∈ xs, key m < key l → e m = false := by
  induction xs with
  | nil => cases mem
  | cons x xs ih =>
    obtain ⟨least, sorted⟩ := List.pairwise_cons.1 sorted
    cases passes : e x with
    | true =>
      rw [List.find?_cons_of_pos passes, Option.some_inj]
      constructor
      · rintro rfl
        refine ⟨passes, fun m hm less => absurd less ?_⟩
        obtain rfl | hm := List.mem_cons.1 hm
        · exact lt_irrefl _
        · exact (least m hm).not_gt
      · rintro ⟨-, none⟩
        obtain rfl | hl := List.mem_cons.1 mem
        · rfl
        · exact absurd (none x List.mem_cons_self (least l hl)) (by simp [passes])
    | false =>
      rw [List.find?_cons_of_neg (by simp [passes])]
      obtain rfl | hl := List.mem_cons.1 mem
      · exact iff_of_false (fun found => absurd (List.find?_some found) (by simp [passes])) (fun h => by simp [passes] at h)
      · rw [ih sorted hl]
        simp [passes]

/-- How many links after the pointer a link is examined (R154). -/
def place (pointer m : Link) : Nat := (m.number + 4 - pointer.number) % 4

theorem examineOrder_sorted (pointer : Link) :
    (examineOrder pointer).Pairwise fun m n => place pointer m < place pointer n := by
  cases pointer <;> decide

theorem mem_examineOrder (pointer m : Link) : m ∈ examineOrder pointer := by
  cases pointer <;> cases m <;> decide

/-- A link that is not eligible, in the claims' words (R153). -/
theorem Liu.eligible_eq_false {u : Liu} :
    u.eligible = false ↔ u.rxQueue = [] ∨ 2 ≤ (u.txQueue.filter Frame.isResponse).length := by
  simp [Liu.eligible, Liu.responses, List.countP_eq_length_filter, imp_iff_not_or, Nat.succ_le_iff]

theorem Liu.eligible_eq_true {u : Liu} :
    u.eligible = true ↔ u.rxQueue ≠ [] ∧ (u.txQueue.filter Frame.isResponse).length < 2 := by
  rw [← Bool.not_eq_false, Liu.eligible_eq_false]
  simp

theorem State.served_eq_none {s : State} : s.served = none ↔ ∀ l, (s.liuOf l).eligible = false := by
  unfold State.served
  cases found : (examineOrder s.pointer).find? fun l => (s.liuOf l).eligible with
  | none =>
    rw [List.find?_eq_none] at found
    simpa using fun l => found l (mem_examineOrder _ l)
  | some l =>
    have eligible : (s.liuOf l).eligible = true := List.find?_some (p := fun l => (s.liuOf l).eligible) found
    refine iff_of_false ?_ fun none => absurd (none l) (by simp [eligible])
    obtain ⟨waiting, -⟩ := Liu.eligible_eq_true.1 eligible
    dsimp only
    split
    · contradiction
    · simp

theorem State.served_eq_some {s : State} {l : Link} {f : Frame} :
    s.served = some (l, f) ↔ (∃ rest, (s.liuOf l).rxQueue = f :: rest) ∧ (s.liuOf l).eligible = true ∧
      ∀ m, place s.pointer m < place s.pointer l → (s.liuOf m).eligible = false := by
  have first : (examineOrder s.pointer).find? (fun l => (s.liuOf l).eligible) = some l ↔
      (s.liuOf l).eligible = true ∧ ∀ m, place s.pointer m < place s.pointer l → (s.liuOf m).eligible = false := by
    rw [find?_eq_some_iff_of_pairwise (examineOrder_sorted s.pointer) (mem_examineOrder _ l)]
    simp [mem_examineOrder]
  rw [← first]
  unfold State.served
  cases found : (examineOrder s.pointer).find? fun l => (s.liuOf l).eligible with
  | none => simp
  | some m =>
    dsimp only
    split
    · rename_i empty
      refine iff_of_false (by simp) ?_
      rintro ⟨⟨rest, waiting⟩, ⟨⟩⟩
      simp [empty] at waiting
    · rename_i g rest waiting
      constructor
      · rintro ⟨⟩
        exact ⟨⟨rest, waiting⟩, rfl⟩
      · rintro ⟨⟨rest', waiting'⟩, ⟨⟩⟩
        rw [waiting] at waiting'
        cases waiting'
        rfl

/-- Settles O14: the two inversions of the arbiter's choice, in the words of the claim. -/
theorem arbiterServesFirstEligible : Obligations.ArbiterServesFirstEligible := by
  unfold Obligations.ArbiterServesFirstEligible
  intro s
  refine ⟨by simp only [State.served_eq_none, Liu.eligible_eq_false], fun l f => ?_⟩
  rw [State.served_eq_some, Liu.eligible_eq_true]
  simp only [Liu.eligible_eq_false]
  constructor
  · rintro ⟨waiting, ⟨-, room⟩, first⟩
    exact ⟨waiting, room, first⟩
  · rintro ⟨⟨rest, waiting⟩, room, first⟩
    exact ⟨⟨rest, waiting⟩, ⟨by simp [waiting], room⟩, first⟩

/-- Settles O10: the break's state is the command's own; with nothing received the link is not eligible. -/
theorem breakEmptiesTheLink : Obligations.BreakEmptiesTheLink := by
  unfold Obligations.BreakEmptiesTheLink
  intro s l run
  refine ⟨_, exec_linkBreak run l, rfl, ?_, ?_, fun f served => ?_, fun m other => State.liuOf_modLiu_ne s _ other⟩
  · simp [Liu.takeBreak]
  · simp [Liu.takeBreak]
  · obtain ⟨⟨rest, waiting⟩, -⟩ := State.served_eq_some.1 served
    simp [Liu.takeBreak] at waiting

/-! ### The frame that begins (R173, R174, R148) -/

theorem Liu.startNext_of_empty {u : Liu} (h : u.txQueue = []) : u.startNext = u := by
  unfold Liu.startNext
  split
  · rename_i waiting
    rw [h] at waiting
    cases waiting
  · rfl

theorem Liu.startNext_of_waiting {u : Liu} {f : Frame} {rest : List Frame} (idle : u.tx = .idle) (h : u.txQueue = f :: rest) :
    u.startNext = { u with tx := .sending f 0, txQueue := rest, linkEvent := u.linkEvent && !f.linkEvent } := by
  unfold Liu.startNext
  rw [idle, h]

/-- The transmitter falls idle, and the oldest waiting frame begins (R173, R174). -/
def Liu.nextFrame (u : Liu) : Liu := Liu.startNext { u with tx := .idle }

theorem Liu.nextFrame_of_empty {u : Liu} (h : u.txQueue = []) : u.nextFrame = { u with tx := .idle } :=
  Liu.startNext_of_empty h

theorem Liu.nextFrame_of_waiting {u : Liu} {f : Frame} {rest : List Frame} (h : u.txQueue = f :: rest) :
    u.nextFrame = { u with tx := .sending f 0, txQueue := rest, linkEvent := u.linkEvent && !f.linkEvent } :=
  Liu.startNext_of_waiting rfl h

theorem Transmitter.frameDone_iff {x : Transmitter} :
    x.frameDone = true ↔ ∃ f n, x = .sending f n ∧ (f.payload.length + 3) * 440 ≤ n := by
  cases x with
  | sending f n =>
    simp only [Transmitter.frameDone, decide_eq_true_eq, Transmitter.sending.injEq]
    exact ⟨fun long => ⟨f, n, ⟨rfl, rfl⟩, long⟩, by rintro ⟨_, _, ⟨rfl, rfl⟩, long⟩; exact long⟩
  | idle => simp [Transmitter.frameDone]
  | resetBreak n => simp [Transmitter.frameDone]

theorem Transmitter.breakDone_iff {x : Transmitter} : x.breakDone = true ↔ ∃ n, x = .resetBreak n ∧ 1320 ≤ n := by
  cases x <;> simp [Transmitter.breakDone, resetBreakClocks, clocksPerMicro]

section
variable {s : State} (run : s.inReset = false) (l : Link)
include run

theorem exec_frameTransmitEnd :
    exec (.frameTransmitEnd l) s = .next (s.when (s.liuOf l).tx.frameDone fun s => s.modLiu l Liu.nextFrame) :=
  congrArg _ (State.live_of_run run _)

theorem exec_resetBreakEnd :
    exec (.resetBreakEnd l) s = .next (s.when (s.liuOf l).tx.breakDone fun s => s.modLiu l Liu.nextFrame) :=
  congrArg _ (State.live_of_run run _)

end

/-- Settles O11: both ends come to the next frame, which there is or is not. -/
theorem transmitterTakesNextFrame : Obligations.TransmitterTakesNextFrame := by
  unfold Obligations.TransmitterTakesNextFrame
  intro s l run
  refine ⟨fun f n sending long => ?_, fun n breaking long => ?_⟩
  · have done : (s.liuOf l).tx.frameDone = true := Transmitter.frameDone_iff.2 ⟨f, n, sending, long⟩
    rw [exec_frameTransmitEnd run, done, State.when_true]
    exact ⟨fun empty => congrArg _ (State.modLiu_congr s l (Liu.nextFrame_of_empty empty)),
      fun g rest waiting => congrArg _ (State.modLiu_congr s l (Liu.nextFrame_of_waiting waiting))⟩
  · have done : (s.liuOf l).tx.breakDone = true := Transmitter.breakDone_iff.2 ⟨n, breaking, long⟩
    rw [exec_resetBreakEnd run, done, State.when_true]
    exact ⟨fun empty => congrArg _ (State.modLiu_congr s l (Liu.nextFrame_of_empty empty)),
      fun g rest waiting => congrArg _ (State.modLiu_congr s l (Liu.nextFrame_of_waiting waiting))⟩

/-! ### What a transmit queue may hold (R153, R173) -/

theorem periodicCode_ne_response (l : Link) : periodicCode l ≠ Frame.responseCode := by cases l <;> decide

/-- A frame for a link: a RESPONSE, or one of the link's periodic kind. -/
theorem Frame.isResponse_iff {f : Frame} : f.isResponse = true ↔ f.kind = Frame.responseCode := by
  simp [Frame.isResponse]

/-- A queue of RESPONSE frames and periodic ones is no longer than the two numbers together. -/
theorem length_le_countP {l : Link} {q : List Frame} (h : ∀ f ∈ q, f.isResponse = true ∨ f.kind = periodicCode l) :
    q.length ≤ q.countP Frame.isResponse + q.countP (fun f => f.kind = periodicCode l) := by
  rw [List.length_eq_countP_add_countP Frame.isResponse, Nat.add_le_add_iff_left]
  exact List.countP_mono_left fun f hf other => decide_eq_true ((h f hf).resolve_left (by simpa using other))

/-- What a sound queue asks, the length left out: it follows. -/
theorem txQueueOk_of_counts {l : Link} {q : List Frame} (responses : q.countP Frame.isResponse ≤ 2)
    (periodic : q.countP (fun f => f.kind = periodicCode l) ≤ 1)
    (kinds : ∀ f ∈ q, f.isResponse = true ∨ f.kind = periodicCode l) : TxQueueOk l q :=
  ⟨(length_le_countP kinds).trans (by omega), responses, periodic, kinds⟩

theorem TxQueueOk.tail {l : Link} {f : Frame} {q : List Frame} (h : TxQueueOk l (f :: q)) : TxQueueOk l q := by
  obtain ⟨-, responses, periodic, kinds⟩ := h
  have sub := List.sublist_cons_self f q
  exact txQueueOk_of_counts (sub.countP_le.trans responses) (sub.countP_le.trans periodic)
    fun g hg => kinds g (List.mem_cons_of_mem _ hg)

/-- A RESPONSE more, where fewer than two waited (R153, R159). -/
theorem TxQueueOk.append_response {l : Link} {q : List Frame} (h : TxQueueOk l q) {r : Frame} (hr : r.isResponse = true)
    (room : q.countP Frame.isResponse < 2) : TxQueueOk l (q ++ [r]) := by
  obtain ⟨-, -, periodic, kinds⟩ := h
  have other : r.kind ≠ periodicCode l := by
    rw [Frame.isResponse_iff.1 hr]
    exact (periodicCode_ne_response l).symm
  refine txQueueOk_of_counts ?_ ?_ ?_
  · simp [hr]; omega
  · simpa [other] using periodic
  · simpa [or_imp, forall_and, hr] using kinds

theorem mem_of_mem_placePeriodic {f g : Frame} {q : List Frame} (h : g ∈ placePeriodic f q) : g = f ∨ g ∈ q := by
  induction q with
  | nil => exact .inl (List.mem_singleton.1 h)
  | cons x q ih =>
    unfold placePeriodic at h
    split at h
    · obtain rfl | h := List.mem_cons.1 h
      · exact .inl rfl
      · exact .inr (List.mem_cons_of_mem _ h)
    · obtain rfl | h := List.mem_cons.1 h
      · exact .inr List.mem_cons_self
      · exact (ih h).imp_right (List.mem_cons_of_mem _)

/-- Frames of other kinds are as many after a periodic frame was placed as before (R147). -/
theorem countP_placePeriodic_other {f : Frame} {p : Frame → Bool} (h : ∀ g, g.kind = f.kind → p g = false) (q : List Frame) :
    (placePeriodic f q).countP p = q.countP p := by
  induction q with
  | nil => simp [placePeriodic, h f rfl]
  | cons x q ih =>
    unfold placePeriodic
    split
    · rename_i same
      simp [h f rfl, h x same]
    · simp [List.countP_cons, ih]

/-- Of its own kind there is one when there was none, and as many as before otherwise (R147). -/
theorem countP_placePeriodic_kind (f : Frame) (q : List Frame) :
    (placePeriodic f q).countP (fun g => g.kind = f.kind) = max 1 (q.countP fun g => g.kind = f.kind) := by
  induction q with
  | nil => simp [placePeriodic]
  | cons x q ih =>
    unfold placePeriodic
    split
    · rename_i same
      simp [same]
    · rename_i other
      simp [other, ih]

/-- A periodic frame takes the place of the one of its kind or joins the queue: the numbers stay in bounds (R147). -/
theorem TxQueueOk.placePeriodic {l : Link} {q : List Frame} (h : TxQueueOk l q) {f : Frame} (hf : f.kind = periodicCode l) :
    TxQueueOk l (placePeriodic f q) := by
  obtain ⟨-, responses, periodic, kinds⟩ := h
  refine txQueueOk_of_counts ?_ ?_ fun g hg => ?_
  · rwa [countP_placePeriodic_other fun g same => ?_]
    rw [← Bool.not_eq_true, Frame.isResponse_iff, same, hf]
    exact periodicCode_ne_response l
  · rw [← hf, countP_placePeriodic_kind, hf]
    omega
  · obtain rfl | hg := mem_of_mem_placePeriodic hg
    · exact .inr hf
    · exact kinds g hg

/-! ### What keeps the transmit side of a link sound -/

section
variable {u : Liu} {l : Link}

/-- A sound queue handed to a link begins on an idle line; there it may hold one frame, since none waited. -/
theorem Liu.Ok.startNext_queue (h : u.Ok l) {q : List Frame} (sound : TxQueueOk l q) (single : u.tx = .idle → q.length ≤ 1) :
    (Liu.startNext { u with txQueue := q }).Ok l := by
  obtain ⟨rx, -, wellFormed, count, faulted, begun, growing, gap, -⟩ := h
  by_cases idle : u.tx = .idle
  · match q, single idle with
    | [], _ =>
      rw [Liu.startNext_of_empty rfl]
      exact ⟨rx, sound, wellFormed, count, faulted, begun, growing, gap, fun _ => rfl⟩
    | [f], _ =>
      rw [Liu.startNext_of_waiting (u := { u with txQueue := [f] }) idle rfl]
      exact ⟨rx, sound.tail, wellFormed, count, faulted, begun, growing, gap, fun _ => rfl⟩
  · rw [Liu.startNext_of_busy (u := { u with txQueue := q }) idle]
    exact ⟨rx, sound, wellFormed, count, faulted, begun, growing, gap, fun e => absurd e idle⟩

theorem Liu.Ok.appendResponse (h : u.Ok l) (room : u.responses < 2) {r : Frame} (hr : r.isResponse = true) :
    (u.appendResponse r).Ok l := by
  obtain ⟨-, queue, -, -, -, -, -, -, idle⟩ := id h
  exact h.startNext_queue (queue.append_response hr room) fun e => by simp [idle e]

theorem Liu.Ok.putPeriodic (h : u.Ok l) {f : Frame} (hf : f.kind = periodicCode l) : (u.putPeriodic f).Ok l := by
  obtain ⟨-, queue, -, -, -, -, -, -, idle⟩ := id h
  exact h.startNext_queue (queue.placePeriodic hf) fun e => by simp [idle e, Machine.placePeriodic]

theorem Liu.Ok.nextFrame (h : u.Ok l) : u.nextFrame.Ok l := by
  obtain ⟨rx, queue, wellFormed, count, faulted, begun, growing, gap, -⟩ := h
  match e : u.txQueue with
  | [] =>
    rw [Liu.nextFrame_of_empty e]
    exact ⟨rx, queue, wellFormed, count, faulted, begun, growing, gap, fun _ => e⟩
  | f :: rest =>
    rw [Liu.nextFrame_of_waiting e]
    exact ⟨rx, (e ▸ queue).tail, wellFormed, count, faulted, begun, growing, gap, fun idle => nomatch idle⟩

/-- The oldest frame received leaves its queue (R154). -/
theorem Liu.Ok.dequeue (h : u.Ok l) : ({ u with rxQueue := u.rxQueue.tail } : Liu).Ok l := by
  obtain ⟨rx, queue, wellFormed, rest⟩ := h
  exact ⟨by simp; omega, queue, fun f hf => wellFormed f (List.mem_of_mem_tail hf), rest⟩

/-- A clock period moves a link's timers and its receiver alone. -/
theorem Liu.Ok.advance (h : u.Ok l) (rxd : Bool) : (u.advance rxd).Ok l := by
  obtain ⟨rx, queue, wellFormed, count, faulted, begun, growing, gap, idle⟩ := h
  refine ⟨rx, queue, wellFormed, count, faulted, begun, growing, fun running => gap fun stopped => running ?_,
    fun e => idle ?_⟩
  · simp [Liu.advance, stopped]
  · cases tx : u.tx <;> simp [Liu.advance, Transmitter.advance, tx] at e ⊢

end

theorem Liu.reset_ok (l : Link) : Liu.reset.Ok l := by simp [Liu.Ok, Liu.reset, TxQueueOk]

/-! ### The RESPONSE (R159) -/

@[simp] theorem response_kind (f : Frame) (a : Answer) : (response f a).kind = Frame.responseCode := rfl

theorem response_isResponse (f : Frame) (a : Answer) : (response f a).isResponse = true := Frame.isResponse_iff.2 rfl

/-- On an idle line a RESPONSE begins at once (R159, R173). -/
theorem Liu.appendResponse_of_idle {u : Liu} {r : Frame} (plain : r.linkEvent = false) (idle : u.tx = .idle)
    (queue : u.txQueue = []) : u.appendResponse r = { u with tx := .sending r 0, txQueue := [] } := by
  rw [Liu.appendResponse, queue, List.nil_append, Liu.startNext_of_waiting (u := { u with txQueue := [r] }) idle rfl]
  simp [plain]

/-- On a busy line a RESPONSE is the newest in the queue (R159). -/
theorem Liu.appendResponse_of_busy {u : Liu} (r : Frame) (busy : u.tx ≠ .idle) :
    u.appendResponse r = { u with txQueue := u.txQueue ++ [r] } :=
  Liu.startNext_of_busy (u := { u with txQueue := u.txQueue ++ [r] }) busy

/-- What an answered frame changes: its link, and the pointer (R154, R159). -/
theorem State.answered_eq (s : State) (l : Link) (f : Frame) (st : Status) (data : List Byte) :
    s.answered l f st data = { s.modLiu l (fun u =>
      ({ u with rxQueue := u.rxQueue.tail } : Liu).appendResponse (response f { status := st, data := data })) with
        pointer := l.next } := by
  simp [State.answered, State.answer, State.dequeue, State.modLiu]

/-- The header byte as a number: the kind code in bits 0 to 5, the tag above (09 §9.1). -/
theorem header_toNat : ∀ (tag : BitVec 2) (kind : BitVec 6), (tag ++ kind : BitVec (2 + 6)).toNat = kind.toNat + 64 * tag.toNat := by
  decide

theorem setWidth8_eq : ∀ kind : BitVec 6, kind.setWidth 8 = BitVec.ofNat 8 kind.toNat := by decide

/-- Settles O17: the RESPONSE is the model's own; what it changes of a link is its place in the queue. -/
theorem responseFormAndPlace : Obligations.ResponseFormAndPlace := by
  unfold Obligations.ResponseFormAndPlace
  intro s l f st data fits queue
  have wellFormed : (response f { status := st, data := data }).WellFormed := by simp [Frame.WellFormed, response]; omega
  have plain : (response f { status := st, data := data }).linkEvent = false := by
    simp [response, Frame.linkEvent, Frame.responseCode, Frame.axleCommandCode, Frame.slipReportCode, Frame.statusReportCode]
  refine ⟨response f { status := st, data := data }, wellFormed, response_isResponse _ _, plain, ?_, ?_, ?_, ?_⟩
  · exact header_toNat _ _
  · rw [Frame.lengthByte_toNat wellFormed]
    simp [response]
    omega
  · rw [response, setWidth8_eq]
  · rw [State.answered_eq]
    refine congrArg (fun t : State => { t with pointer := l.next }) (State.modLiu_congr s l ?_)
    cases tx : (s.liuOf l).tx with
    | idle => exact Liu.appendResponse_of_idle plain rfl (queue tx)
    | sending g n => exact Liu.appendResponse_of_busy _ (by simp)
    | resetBreak n => exact Liu.appendResponse_of_busy _ (by simp)

end Sys2Proof.Machine
end

section
/-! SUPPORT. The Limit Table: what keeps it sound, the request LIMIT_POST, the lifetime of a record, and the
proofs of O22 and O25. -/

namespace Sys2Proof.Machine

/-! ### What keeps the table sound (R55, R56) -/

theorem LimitsOk.nil : LimitsOk [] := by simp [LimitsOk, ownerCount]

/-- The records of the four owners together are the table. -/
theorem length_eq_ownerCounts (table : List Limit) :
    table.length = ownerCount table .vsc + ownerCount table .fdi + ownerCount table .rdi + ownerCount table .sbc := by
  induction table with
  | nil => rfl
  | cons r table ih =>
    simp only [ownerCount, List.countP_cons, List.length_cons] at ih ⊢
    cases r.owner <;> simp <;> omega

/-- At most 4 records of each owner are at most 16 (R55, R56). -/
theorem limitsOk_of_owners {table : List Limit} (owners : ∀ l : Link, ownerCount table l ≤ 4)
    (distinct : table.Pairwise fun q r => ¬ (q.owner = r.owner ∧ q.tag = r.tag)) (sound : ∀ r ∈ table, r.Ok) :
    LimitsOk table := by
  refine ⟨?_, owners, distinct, sound⟩
  have := owners .vsc
  have := owners .fdi
  have := owners .rdi
  have := owners .sbc
  rw [length_eq_ownerCounts]
  omega

theorem LimitsOk.sublist {table rest : List Limit} (h : LimitsOk table) (sub : rest.Sublist table) : LimitsOk rest := by
  obtain ⟨length, owners, distinct, sound⟩ := h
  exact ⟨sub.length_le.trans length, fun l => sub.countP_le.trans (owners l), distinct.sublist sub,
    fun r hr => sound r (sub.subset hr)⟩

/-- In a sound table an owner and a tag name one record (R56). -/
theorem LimitsOk.unique {table : List Limit} (h : LimitsOk table) {q r : Limit} (hq : q ∈ table) (hr : r ∈ table)
    (owner : q.owner = r.owner) (tag : q.tag = r.tag) : q = r := by
  obtain ⟨-, -, distinct, -⟩ := h
  have symmetric : Std.Symm fun x y : Limit => ¬ (x.owner = y.owner ∧ x.tag = y.tag) :=
    ⟨fun _ _ apart same => apart ⟨same.1.symm, same.2.symm⟩⟩
  by_contra other
  exact distinct.forall hq hr other ⟨owner, tag⟩

theorem mem_placeLimit {table : List Limit} {q r : Limit} :
    q ∈ placeLimit table r ↔ (q ∈ table ∧ ¬ (q.owner = r.owner ∧ q.tag = r.tag)) ∨ q = r := by
  simp [placeLimit, Limit.named, imp_iff_not_or]

/-- A posting keeps the table sound where it replaces a record or its owner holds fewer than four (R56, R60). -/
theorem LimitsOk.placeLimit {table : List Limit} (h : LimitsOk table) {r : Limit} (hr : r.Ok)
    (room : (∃ q ∈ table, q.owner = r.owner ∧ q.tag = r.tag) ∨ ownerCount table r.owner < 4) :
    LimitsOk (placeLimit table r) := by
  have sub : (table.filter fun q => !q.named r.owner r.tag).Sublist table := List.filter_sublist
  have kept := h.sublist sub
  have fewer : ownerCount (table.filter fun q => !q.named r.owner r.tag) r.owner < 4 := by
    obtain replaced | free := room
    · have removed := (h.counts_filter_other replaced).2
      obtain ⟨-, owners, -, -⟩ := h
      have := owners r.owner
      rw [filter_not_named]
      omega
    · exact sub.countP_le.trans_lt free
  obtain ⟨-, owners, distinct, sound⟩ := kept
  refine limitsOk_of_owners (fun l => ?_) ?_ ?_
  · have count : ownerCount (Machine.placeLimit table r) l =
        ownerCount (table.filter fun q => !q.named r.owner r.tag) l + if r.owner = l then 1 else 0 := by
      simp [ownerCount, Machine.placeLimit, List.countP_append, List.countP_cons]
    rw [count]
    split_ifs with own
    · subst own; omega
    · exact owners l
  · refine List.pairwise_append.2 ⟨distinct, List.pairwise_singleton _ _, fun q hq x hx => ?_⟩
    rw [List.mem_singleton.1 hx]
    simpa [Limit.named, imp_iff_not_or] using (List.mem_filter.1 hq).2
  · intro q hq
    obtain ⟨member, -⟩ | rfl := mem_placeLimit.1 hq
    · exact h.2.2.2 q member
    · exact hr

/-! ### Lifetime (R62, R63) -/

@[simp] theorem Limit.consume_owner (r : Limit) : r.consume.owner = r.owner := by unfold Limit.consume; split <;> rfl

@[simp] theorem Limit.consume_tag (r : Limit) : r.consume.tag = r.tag := by unfold Limit.consume; split <;> rfl

theorem Limit.consume_of_endless {r : Limit} (h : r.lifetime = 0) : r.consume = r := if_pos h

theorem Limit.consume_of_finite {r : Limit} (h : r.lifetime ≠ 0) : r.consume = { r with remaining := r.remaining - 1 } :=
  if_neg h

theorem Limit.lives_iff {r : Limit} : r.lives = true ↔ r.lifetime = 0 ∨ r.remaining ≠ 0 := by simp [Limit.lives]

/-- A record that lives on after a take is sound (R55, R63). -/
theorem Limit.Ok.consume {r : Limit} (h : r.Ok) (lives : r.consume.lives = true) : r.consume.Ok := by
  by_cases endless : r.lifetime = 0
  · rwa [Limit.consume_of_endless endless]
  · rw [Limit.lives_iff] at lives
    rw [Limit.consume_of_finite endless] at lives ⊢
    obtain ⟨tag, value, lifetime, most, least⟩ := h
    refine ⟨tag, value, lifetime, ?_, fun _ => ?_⟩ <;> dsimp only at lives ⊢ <;> omega

theorem LimitsOk.consumeLimits {table : List Limit} (h : LimitsOk table) : LimitsOk (consumeLimits table) := by
  obtain ⟨length, owners, distinct, sound⟩ := h
  have sub : (Machine.consumeLimits table).Sublist (table.map Limit.consume) := List.filter_sublist
  refine ⟨sub.length_le.trans (by simpa using length), fun l => sub.countP_le.trans ?_, ?_, fun q hq => ?_⟩
  · rw [List.countP_map]
    exact (List.countP_congr (by simp)).trans_le (owners l)
  · exact (List.pairwise_map.2 (by simpa using distinct)).sublist sub
  · obtain ⟨member, lives⟩ := List.mem_filter.1 hq
    obtain ⟨r, hr, rfl⟩ := List.mem_map.1 member
    exact (sound r hr).consume lives

theorem mem_consumeLimits {table : List Limit} {q : Limit} :
    q ∈ consumeLimits table ↔ ∃ r ∈ table, q = r.consume ∧ q.lives = true := by
  simp only [consumeLimits, List.mem_filter, List.mem_map]
  constructor
  · rintro ⟨⟨r, hr, rfl⟩, lives⟩
    exact ⟨r, hr, rfl, lives⟩
  · rintro ⟨r, hr, rfl, lives⟩
    exact ⟨⟨r, hr, rfl⟩, lives⟩

/-- A record after some takes, as long as it is not removed (R63). -/
theorem Limit.consume_iterate_of_finite {r : Limit} (h : r.lifetime ≠ 0) (k : Nat) :
    Limit.consume^[k] r = { r with remaining := r.remaining - k } := by
  induction k with
  | zero => rfl
  | succ k ih => rw [Function.iterate_succ_apply', ih, Limit.consume_of_finite (by exact h), Nat.sub_sub]

/-- Every record of the table after some takes was there before, and lives. -/
theorem exists_of_mem_consumeLimits_iterate {table : List Limit} {q : Limit} {k : Nat} (h : q ∈ consumeLimits^[k] table) :
    ∃ r ∈ table, q = Limit.consume^[k] r ∧ (0 < k → q.lives = true) := by
  induction k generalizing q with
  | zero => exact ⟨q, h, rfl, fun none => absurd none (lt_irrefl 0)⟩
  | succ k ih =>
    rw [Function.iterate_succ_apply'] at h
    obtain ⟨p, hp, rfl, lives⟩ := mem_consumeLimits.1 h
    obtain ⟨r, hr, rfl, -⟩ := ih hp
    exact ⟨r, hr, (Function.iterate_succ_apply' _ _ _).symm, fun _ => lives⟩

theorem Limit.consume_iterate_owner_tag (r : Limit) (k : Nat) :
    (Limit.consume^[k] r).owner = r.owner ∧ (Limit.consume^[k] r).tag = r.tag := by
  induction k with
  | zero => exact ⟨rfl, rfl⟩
  | succ k ih => simpa only [Function.iterate_succ_apply', Limit.consume_owner, Limit.consume_tag] using ih

/-- Settles O25: by induction on the takes; a record of a finite lifetime is gone when its passes are, and no other
has its owner and tag. -/
theorem limitCountsInItsLifetime : Obligations.LimitCountsInItsLifetime := by
  unfold Obligations.LimitCountsInItsLifetime
  intro table r ok hr fresh
  refine ⟨fun k more => ?_, fun finite k beyond q hq same => ?_, fun endless k => ?_, fun k => ?_⟩
  · induction k with
    | zero =>
      have whole : ({ r with remaining := r.lifetime } : Limit) = r := by cases r; cases fresh; rfl
      rw [Nat.sub_zero, whole]
      exact hr
    | succ k ih =>
      rw [Function.iterate_succ_apply', mem_consumeLimits]
      refine ⟨_, ih (by omega), ?_, ?_⟩
      · rw [Limit.consume_of_finite (by dsimp only; omega), Nat.sub_sub]
      · rw [Limit.lives_iff]
        right
        dsimp only
        omega
  · obtain ⟨p, hp, rfl, lives⟩ := exists_of_mem_consumeLimits_iterate hq
    rw [(p.consume_iterate_owner_tag k).1, (p.consume_iterate_owner_tag k).2] at same
    obtain rfl := ok.unique hp hr same.1 same.2
    have alive := lives (by omega)
    rw [Limit.consume_iterate_of_finite (by omega), Limit.lives_iff] at alive
    dsimp only at alive
    omega
  · induction k with
    | zero => exact hr
    | succ k ih =>
      rw [Function.iterate_succ_apply', mem_consumeLimits]
      exact ⟨r, ih, (Limit.consume_of_endless endless).symm, Limit.lives_iff.2 (.inl endless)⟩
  · induction k with
    | zero => exact List.Sublist.refl _
    | succ k ih =>
      rw [Function.iterate_succ_apply']
      refine List.Sublist.trans ?_ ih
      have sub : (consumeLimits (consumeLimits^[k] table)).Sublist ((consumeLimits^[k] table).map Limit.consume) :=
        List.filter_sublist
      simpa [List.map_map, Function.comp_def] using sub.map fun q => (q.owner, q.tag)

/-! ### LIMIT_POST (R58 to R60) -/

theorem mayPostOn_eq_false {l : Link} {a : LimitAxle} :
    mayPostOn l a = false ↔ l = .fdi ∧ a ≠ .front ∨ l = .rdi ∧ a ≠ .rear := by
  cases l <;> simp [mayPostOn]

/-- A code up to 2 names an axle of a limit (R55). -/
theorem LimitAxle.exists_code {n : Nat} (h : n ≤ 2) : ∃ a : LimitAxle, n = a.code := by
  interval_cases n
  exacts [⟨.front, rfl⟩, ⟨.rear, rfl⟩, ⟨.both, rfl⟩]

/-- A code up to 3 names a kind of limit (R55). -/
theorem LimitKind.exists_code {n : Nat} (h : n ≤ 3) : ∃ k : LimitKind, n = k.code := by
  interval_cases n
  exacts [⟨.driveCeil, rfl⟩, ⟨.regenCeil, rfl⟩, ⟨.rateCeil, rfl⟩, ⟨.noTransfer, rfl⟩]

theorem Link.isInverter_iff {l : Link} : l.isInverter = true ↔ l = .fdi ∨ l = .rdi := by
  cases l <;> simp [Link.isInverter]

/-- What R59 stores is in the range of its kind (R55). -/
theorem storedValue_ok (k : LimitKind) (v : Nat) : k.valueOk (storedValue k v) := by
  cases k with
  | driveCeil => exact min_le_right _ _
  | regenCeil => exact min_le_right _ _
  | rateCeil => exact clampNat_mem (by decide) v
  | noTransfer => rfl

section
variable {l : Link} {p : List Byte} {s : State}

/-- A tag, an axle code or a kind code out of range is refused (R58, check 1). -/
theorem postLimit_of_bad_field (h : 15 < u8 p 0 ∨ 2 < u8 p 1 ∨ 3 < u8 p 2) : postLimit l p s = (s, some (bare .badField)) := by
  unfold postLimit
  split
  next axle kind haxle hkind =>
    obtain tag | code | code := h
    · rw [if_pos tag]
    · rw [LimitAxle.ofCode_none code] at haxle; cases haxle
    · rw [LimitKind.ofCode_none code] at hkind; cases hkind
  next => rfl

variable {axle : LimitAxle} {kind : LimitKind} (htag : u8 p 0 ≤ 15) (haxle : u8 p 1 = axle.code) (hkind : u8 p 2 = kind.code)
include htag haxle hkind

/-- An inverter's posting on another axle is refused (R58, check 2). -/
theorem postLimit_of_foreign (foreign : mayPostOn l axle = false) : postLimit l p s = (s, some (bare .notPermitted)) := by
  have : ¬ 15 < u8 p 0 := by omega
  simp [postLimit, haxle, hkind, this, foreign]

/-- An inverter's posting without a lifetime is refused (R58, check 3). -/
theorem postLimit_of_endless (own : mayPostOn l axle = true) (endless : (Link.isInverter l && decide (u8 p 5 = 0)) = true) :
    postLimit l p s = (s, some (bare .badField)) := by
  have : ¬ 15 < u8 p 0 := by omega
  unfold postLimit
  rw [haxle, hkind, LimitAxle.ofCode_code, LimitKind.ofCode_code]
  simp only [this, own, endless, if_false, Bool.not_true, Bool.false_eq_true, if_true]

/-- A fifth record of an owner is refused (R58, check 4). -/
theorem postLimit_of_full (own : mayPostOn l axle = true) (finite : (Link.isInverter l && decide (u8 p 5 = 0)) = false)
    (full : (!s.limits.any (fun r => r.named l (u8 p 0)) && decide (4 ≤ ownerCount s.limits l)) = true) :
    postLimit l p s = (s, some (bare .limitFull)) := by
  have : ¬ 15 < u8 p 0 := by omega
  unfold postLimit
  rw [haxle, hkind, LimitAxle.ofCode_code, LimitKind.ofCode_code]
  simp only [this, own, finite, full, if_false, Bool.not_true, Bool.false_eq_true, if_true]

/-- The record that a posting leaves (R59, R60). -/
theorem postLimit_of_accepted (own : mayPostOn l axle = true) (finite : (Link.isInverter l && decide (u8 p 5 = 0)) = false)
    (room : (!s.limits.any (fun r => r.named l (u8 p 0)) && decide (4 ≤ ownerCount s.limits l)) = false) :
    let record : Limit := { owner := l, tag := u8 p 0, axle := axle, kind := kind, value := storedValue kind (u16 p 3)
                            lifetime := u8 p 5, remaining := u8 p 5 }
    postLimit l p s =
      ({ s with limits := placeLimit s.limits record },
       some { status := postStatus kind (u16 p 3)
              data := nat2 (storedValue kind (u16 p 3)) ++ byte1 (ownerCount (placeLimit s.limits record) l) ++
                byte1 (placeLimit s.limits record).length }) := by
  have : ¬ 15 < u8 p 0 := by omega
  unfold postLimit
  rw [haxle, hkind, LimitAxle.ofCode_code, LimitKind.ofCode_code]
  simp only [this, own, finite, room, if_false, Bool.not_true, Bool.false_eq_true]

end

/-- An owner without room for a record, in the claims' words (R56). -/
theorem full_iff {table : List Limit} {l : Link} {tag : Nat} :
    (!table.any (fun r => r.named l tag) && decide (4 ≤ ownerCount table l)) = true ↔
      (∀ r ∈ table, ¬ (r.owner = l ∧ r.tag = tag)) ∧ 4 ≤ (table.filter fun r => r.owner = l).length := by
  simp [ownerCount_eq_length]

/-- What LIMIT_POST can do: refuse, or place a record in range where there is room for it (R58 to R60). -/
theorem postLimit_cases (l : Link) (p : List Byte) (s : State) :
    (∃ st, postLimit l p s = (s, some (bare st))) ∨
      ∃ r a, postLimit l p s = ({ s with limits := placeLimit s.limits r }, some a) ∧ r.Ok ∧ a.data.length ≤ 14 ∧
        ((∃ q ∈ s.limits, q.owner = r.owner ∧ q.tag = r.tag) ∨ ownerCount s.limits r.owner < 4) := by
  by_cases bad : 15 < u8 p 0 ∨ 2 < u8 p 1 ∨ 3 < u8 p 2
  · exact .inl ⟨_, postLimit_of_bad_field bad⟩
  obtain ⟨htag, haxle, hkind⟩ : u8 p 0 ≤ 15 ∧ u8 p 1 ≤ 2 ∧ u8 p 2 ≤ 3 := by omega
  obtain ⟨axle, haxle⟩ := LimitAxle.exists_code haxle
  obtain ⟨kind, hkind⟩ := LimitKind.exists_code hkind
  cases own : mayPostOn l axle with
  | false => exact .inl ⟨_, postLimit_of_foreign htag haxle hkind own⟩
  | true =>
    cases finite : Link.isInverter l && decide (u8 p 5 = 0) with
    | true => exact .inl ⟨_, postLimit_of_endless htag haxle hkind own finite⟩
    | false =>
      cases room : !s.limits.any (fun r => r.named l (u8 p 0)) && decide (4 ≤ ownerCount s.limits l) with
      | true => exact .inl ⟨_, postLimit_of_full htag haxle hkind own finite room⟩
      | false =>
        refine .inr ⟨_, _, postLimit_of_accepted htag haxle hkind own finite room, ?_, by simp [nat2, word2, byte1], ?_⟩
        · have := u8_lt p 5
          exact ⟨htag, storedValue_ok _ _, by dsimp only; omega, le_rfl, fun _ => by dsimp only at *; omega⟩
        · rw [Bool.and_eq_false_iff, Bool.not_eq_false', any_named_iff] at room
          simpa using room

/-- Settles O22: one row of R58's table after another, and the record placed. -/
theorem limitPostJudged : Obligations.LimitPostJudged := by
  unfold Obligations.LimitPostJudged
  intro s l f h hp tag value lifetime held
  refine ⟨fun bad => serve_unchanged h hp (postLimit_of_bad_field bad), ?_⟩
  intro axle kind htag haxle hkind foreign endless full
  have hforeign : mayPostOn l axle = false ↔ foreign := mayPostOn_eq_false
  have hendless : (Link.isInverter l && decide (lifetime = 0)) = true ↔ endless := by simp [Link.isInverter_iff, endless]
  have hfull := full_iff (table := s.limits) (l := l) (tag := tag)
  refine ⟨fun yes => ?_, fun own yes => ?_, fun own finite yes => ?_, fun own finite room => ?_⟩
  · exact serve_unchanged h hp (postLimit_of_foreign htag haxle hkind (hforeign.2 yes))
  · rw [← hforeign, Bool.not_eq_false] at own
    exact serve_unchanged h hp (postLimit_of_endless htag haxle hkind own (hendless.2 yes))
  · rw [← hforeign, Bool.not_eq_false] at own
    rw [← hendless, Bool.not_eq_true] at finite
    exact serve_unchanged h hp (postLimit_of_full htag haxle hkind own finite (hfull.2 yes))
  · rw [← hforeign, Bool.not_eq_false] at own
    rw [← hendless, Bool.not_eq_true] at finite
    rw [show full ↔ _ from hfull.symm, Bool.not_eq_true] at room
    intro stored table
    have kept : storedValue kind value = stored := by
      cases kind with
      | rateCeil => exact clampNat_eq (by decide) _
      | driveCeil | regenCeil | noTransfer => rfl
    have status : postStatus kind value = if kind ≠ .noTransfer ∧ stored ≠ value then .clamped else .ok := by
      rw [← kept]
      cases kind <;> simp [postStatus]
    have placed : placeLimit s.limits { owner := l, tag := tag, axle := axle, kind := kind, value := storedValue kind value
                                        lifetime := lifetime, remaining := lifetime } = table := by
      rw [kept]
      exact congrArg (· ++ _) (filter_not_named s.limits l tag)
    have accepted := serve_limits_changed h hp (postLimit_of_accepted htag haxle hkind own finite room)
    rw [State.dequeue_limits, placed, ownerCount_eq_length] at accepted
    rw [← status, ← kept]
    exact accepted

end Sys2Proof.Machine
end

section
/-! SUPPORT. The Split Map: orders, the pending operation, what keeps the map sound, the requests MAP_FLUSH,
MAP_READ and MAP_PROBE, and the proofs of O28, O29 and O31. -/

namespace Sys2Proof.Machine

/-! ### Sets and entries -/

theorem SplitMap.set_putSet (m : SplitMap) (n k : Fin 16) (x : MapSet) :
    (m.putSet n x).set k = if n = k then x else m.set k := get_set_vec m.sets n k x

@[simp] theorem SplitMap.set_putSet_same (m : SplitMap) (n : Fin 16) (x : MapSet) : (m.putSet n x).set n = x := by
  rw [SplitMap.set_putSet, if_pos rfl]

theorem SplitMap.set_putSet_ne (m : SplitMap) {n k : Fin 16} (x : MapSet) (h : k ≠ n) : (m.putSet n x).set k = m.set k := by
  rw [SplitMap.set_putSet, if_neg h.symm]

theorem MapSet.entry_putEntry (m : MapSet) (w v : Fin 4) (e : Entry) :
    (m.putEntry w e).entry v = if w = v then e else m.entry v := get_set_vec m.ways w v e

/-! ### LRU orders (R34) -/

/-- Moving a way of the order to the front permutes the order (R34). -/
theorem moveFront_perm {w : Fin 4} {lru : List (Fin 4)} (nodup : lru.Nodup) (mem : w ∈ lru) : (moveFront w lru).Perm lru := by
  have erased : lru.erase w = lru.filter (· ≠ w) := by
    rw [nodup.erase_eq_filter]
    exact List.filter_congr fun v _ => by by_cases e : v = w <;> simp [e]
  rw [moveFront, ← erased]
  exact (List.perm_cons_erase mem).symm

/-- Moving a way of the order to the end permutes the order (R34). -/
theorem moveEnd_perm {w : Fin 4} {lru : List (Fin 4)} (nodup : lru.Nodup) (mem : w ∈ lru) : (moveEnd w lru).Perm lru :=
  (List.perm_append_singleton w _).trans (moveFront_perm nodup mem)

section
variable {m : MapSet} (h : m.OrderOk)
include h

theorem MapSet.OrderOk.nodup : m.lru.Nodup := h.nodup_iff.2 (by decide)

theorem MapSet.OrderOk.mem (w : Fin 4) : w ∈ m.lru := h.mem_iff.2 (by revert w; decide)

theorem MapSet.OrderOk.moveFront (w : Fin 4) : (moveFront w m.lru).Perm [0, 1, 2, 3] := (moveFront_perm h.nodup (h.mem w)).trans h

theorem MapSet.OrderOk.moveEnd (w : Fin 4) : (moveEnd w m.lru).Perm [0, 1, 2, 3] := (moveEnd_perm h.nodup (h.mem w)).trans h

end

/-! ### A pending write (R46 to R48) -/

/-- The second step makes this way invalid: it is valid, not the chosen one, and has the written key (R47). -/
def MapSet.evicts (m : MapSet) (w : Fin 4) (key : EntryKey) (v : Fin 4) : Bool :=
  decide (v ≠ w ∧ (m.entry v).valid = true ∧ (m.entry v).content.key = key)

/-- A way made invalid and last in the order (R47). -/
def MapSet.expel (m : MapSet) (v : Fin 4) : MapSet :=
  { m.putEntry v { m.entry v with valid := false } with lru := moveEnd v m.lru }

theorem MapSet.evict_eq (m : MapSet) (w : Fin 4) (key : EntryKey) (v : Fin 4) :
    MapSet.evict w key m v = if m.evicts w key v then m.expel v else m := by
  simp only [MapSet.evict, MapSet.evicts, MapSet.expel, decide_eq_true_eq]

theorem MapSet.expel_entry (m : MapSet) (v u : Fin 4) :
    (m.expel v).entry u = if v = u then { m.entry v with valid := false } else m.entry u :=
  m.entry_putEntry v u _

/-- In a set of distinct keys at most one way is evicted (R33, R47). -/
theorem MapSet.KeysDistinct.evicts_unique {m : MapSet} (h : m.KeysDistinct) {w u v : Fin 4} {key : EntryKey}
    (hu : m.evicts w key u = true) (hv : m.evicts w key v = true) : u = v := by
  simp only [MapSet.evicts, decide_eq_true_eq] at hu hv
  obtain ⟨-, validU, keyU⟩ := hu
  obtain ⟨-, validV, keyV⟩ := hv
  by_contra other
  exact h u v other validU validV (keyU.trans keyV.symm)

theorem MapSet.evict_foldl_of_none {m : MapSet} {w : Fin 4} {key : EntryKey} {ways : List (Fin 4)}
    (h : ∀ v ∈ ways, m.evicts w key v = false) : ways.foldl (MapSet.evict w key) m = m := by
  induction ways with
  | nil => rfl
  | cons v ways ih =>
    rw [List.foldl_cons, MapSet.evict_eq, h v List.mem_cons_self]
    exact ih fun u hu => h u (List.mem_cons_of_mem _ hu)

/-- The second step expels the one way with the key (R47). -/
theorem MapSet.KeysDistinct.evict_foldl_of_mem {m : MapSet} (h : m.KeysDistinct) {w u : Fin 4} {key : EntryKey}
    (hu : m.evicts w key u = true) {ways : List (Fin 4)} (mem : u ∈ ways) : ways.foldl (MapSet.evict w key) m = m.expel u := by
  have noneLeft : ∀ v, (m.expel u).evicts w key v = false := by
    intro v
    by_cases same : u = v
    · simp [MapSet.evicts, MapSet.expel_entry, same]
    · have kept : (m.expel u).evicts w key v = m.evicts w key v := by simp [MapSet.evicts, MapSet.expel_entry, same]
      rw [kept, ← Bool.not_eq_true]
      exact fun hv => same (h.evicts_unique hu hv)
  induction ways with
  | nil => cases mem
  | cons v ways ih =>
    rw [List.foldl_cons, MapSet.evict_eq]
    split_ifs with hv
    · obtain rfl := h.evicts_unique hu hv
      exact MapSet.evict_foldl_of_none fun v _ => noneLeft v
    · obtain rfl | mem := List.mem_cons.1 mem
      · contradiction
      · exact ih mem

/-- The set after the second step: who is valid, and the order (R47). -/
theorem MapSet.Ok.evicted {m : MapSet} (h : m.Ok) (w : Fin 4) (key : EntryKey) :
    let y := allWays.foldl (MapSet.evict w key) m
    (∀ v, y.entry v = { m.entry v with valid := (m.entry v).valid && !m.evicts w key v }) ∧ y.OrderOk ∧
      y.lru = m.lru.filter (fun v => !m.evicts w key v) ++ m.lru.filter (m.evicts w key) := by
  obtain ⟨order, distinct, -⟩ := h
  by_cases some : ∃ u, m.evicts w key u = true
  · obtain ⟨u, hu⟩ := some
    have only : ∀ v, m.evicts w key v = decide (v = u) := fun v => by
      rw [Bool.eq_iff_iff, decide_eq_true_eq]
      exact ⟨fun hv => distinct.evicts_unique hv hu, fun e => e ▸ hu⟩
    have result := distinct.evict_foldl_of_mem hu (mem_allWays u)
    intro y
    have hy : y = m.expel u := result
    rw [hy]
    refine ⟨fun v => ?_, order.moveEnd u, ?_⟩
    · rw [MapSet.expel_entry, only]
      split_ifs with e
      · simp [e]
      · simp [Ne.symm e]
    · have one : m.lru.filter (fun v => decide (v = u)) = [u] := by
        simp [List.filter_eq, List.count_eq_one_of_mem order.nodup (order.mem u)]
      rw [show m.evicts w key = fun v => decide (v = u) from funext only, one]
      simp [MapSet.expel, Machine.moveEnd]
  · have none : ∀ v, m.evicts w key v = false := fun v => by
      rw [← Bool.not_eq_true]
      exact fun hv => some ⟨v, hv⟩
    have result := MapSet.evict_foldl_of_none (ways := allWays) fun v _ => none v
    intro y
    have hy : y = m := result
    rw [hy]
    exact ⟨fun v => by simp [none], order, by simp [none]⟩

theorem MapSet.writeWay_entry (m : MapSet) (w v : Fin 4) (c : Content) :
    (m.writeWay w c).entry v = if w = v then { valid := true, content := c } else m.entry v :=
  m.entry_putEntry w v _

/-- The set after a write: its entries and its order (R45 to R48). -/
theorem MapSet.Ok.applyWrite_eq {m : MapSet} (h : m.Ok) (c : Content) (choice : WayChoice) :
    let w := m.chooseWay choice
    (m.applyWrite c choice).entry w = { valid := true, content := c } ∧
      (∀ v, v ≠ w → (m.applyWrite c choice).entry v =
        { m.entry v with valid := (m.entry v).valid && !m.evicts w c.key v }) ∧
      (m.applyWrite c choice).OrderOk ∧
      (m.applyWrite c choice).lru =
        w :: (m.lru.filter (fun v => decide (v ≠ w) && !m.evicts w c.key v) ++ m.lru.filter (m.evicts w c.key)) := by
  intro w
  obtain ⟨entries, order, lru⟩ := h.evicted w c.key
  refine ⟨?_, fun v other => ?_, order.moveFront w, ?_⟩
  · exact (MapSet.writeWay_entry _ w w c).trans (if_pos rfl)
  · exact (MapSet.writeWay_entry _ w v c).trans ((if_neg other.symm).trans (entries v))
  · have kept : (m.lru.filter (m.evicts w c.key)).filter (· ≠ w) = m.lru.filter (m.evicts w c.key) := by
      rw [List.filter_eq_self]
      intro v hv
      have := (List.mem_filter.1 hv).2
      simp only [MapSet.evicts, decide_eq_true_eq] at this
      exact decide_eq_true this.1
    change moveFront w (allWays.foldl (MapSet.evict w c.key) m).lru = _
    rw [lru, moveFront, List.filter_append, kept, List.filter_filter]

/-! ### What keeps the map sound (R32 to R34) -/

theorem MapSet.Ok.applyWrite {m : MapSet} (h : m.Ok) {c : Content} (hc : c.policy.InRange) (choice : WayChoice) :
    (m.applyWrite c choice).Ok := by
  obtain ⟨written, others, order, -⟩ := h.applyWrite_eq c choice
  obtain ⟨-, distinct, ranges⟩ := h
  have apart : ∀ v, v ≠ m.chooseWay choice → ((m.applyWrite c choice).entry v).valid = true →
      ((m.applyWrite c choice).entry v).content.key ≠ c.key := fun v other valid same => by
    rw [others v other] at valid same
    simp only [MapSet.evicts, Bool.and_eq_true, Bool.not_eq_true', decide_eq_false_iff_not] at valid
    exact valid.2 ⟨other, valid.1, same⟩
  refine ⟨order, fun v u ne hv hu => ?_, fun v => ?_⟩
  · by_cases ev : v = m.chooseWay choice
    · have eu : u ≠ m.chooseWay choice := fun eu => ne (ev.trans eu.symm)
      rw [ev, written]
      exact (apart u eu hu).symm
    · by_cases eu : u = m.chooseWay choice
      · rw [eu, written]
        exact apart v ev hv
      · rw [others v ev] at hv ⊢
        rw [others u eu] at hu ⊢
        exact distinct v u ne (Bool.and_eq_true_iff.1 hv).1 (Bool.and_eq_true_iff.1 hu).1
  · by_cases ev : v = m.chooseWay choice
    · rw [ev, written]
      exact hc
    · rw [others v ev]
      exact ranges v

theorem MapSet.flush_entry (m : MapSet) (w : Fin 4) : m.flush.entry w = { m.entry w with valid := false } := by
  simp [MapSet.flush, MapSet.entry]

theorem MapSet.Ok.flush {m : MapSet} (h : m.Ok) : m.flush.Ok := by
  obtain ⟨-, -, ranges⟩ := h
  refine ⟨List.Perm.refl _, fun v w _ hv => ?_, fun w => ?_⟩
  · rw [m.flush_entry] at hv
    cases hv
  · rw [m.flush_entry]
    exact ranges w

theorem MapSet.Ok.moveFront {m : MapSet} (h : m.Ok) (w : Fin 4) : ({ m with lru := moveFront w m.lru } : MapSet).Ok :=
  ⟨h.1.moveFront w, h.2⟩

theorem SplitMap.Ok.putSet {m : SplitMap} (h : m.Ok) {n : Fin 16} {x : MapSet} (hx : x.Ok) : (m.putSet n x).Ok := by
  obtain ⟨sets, stage, slot⟩ := h
  refine ⟨fun k => ?_, stage, slot⟩
  rw [SplitMap.set_putSet]
  split_ifs
  · exact hx
  · exact sets k

theorem SplitMap.applyPending_of_write {m : SplitMap} {c : Content} {n : Fin 16} {choice : WayChoice}
    (h : m.slot = .write c n choice) :
    m.applyPending = { m.putSet n ((m.set n).applyWrite c choice) with slot := .empty } := by
  simp [SplitMap.applyPending, h]

theorem SplitMap.applyPending_of_flush {m : SplitMap} (h : m.slot = .flush) :
    m.applyPending = { m with sets := mapCells MapSet.flush m.sets, slot := .empty } := by
  simp [SplitMap.applyPending, h]

theorem SplitMap.applyPending_of_empty {m : SplitMap} (h : m.slot = .empty) : m.applyPending = m := by
  simp [SplitMap.applyPending, h]

theorem SplitMap.set_flushed (m : SplitMap) (n : Fin 16) :
    ({ m with sets := mapCells MapSet.flush m.sets, slot := .empty } : SplitMap).set n = (m.set n).flush :=
  get_mapCells _ _ _

theorem SplitMap.Ok.applyPending {m : SplitMap} (h : m.Ok) : m.applyPending.Ok := by
  obtain ⟨sets, stage, slot⟩ := id h
  cases e : m.slot with
  | empty => rwa [SplitMap.applyPending_of_empty e]
  | write c n choice =>
    rw [SplitMap.applyPending_of_write e]
    rw [e] at slot
    exact ⟨(h.putSet ((sets n).applyWrite slot choice)).1, stage, trivial⟩
  | flush =>
    rw [SplitMap.applyPending_of_flush e]
    refine ⟨fun n => ?_, stage, trivial⟩
    rw [m.set_flushed]
    exact (sets n).flush

/-- A lookup that hits moves the way to the front of its set's order and gives its policy (R37). -/
theorem SplitMap.lookup_of_hit {m : SplitMap} {k : MapKey} {w : Fin 4} (h : (m.set k.set).select k = some w) (d : Policy) :
    m.lookup k d = (m.putSet k.set { m.set k.set with lru := moveFront w (m.set k.set).lru },
      ((m.set k.set).entry w).content.policy, { hit := true, set := k.set, way := w }) := by
  simp [SplitMap.lookup, h]

/-- A lookup that misses gives the defaults (R10). -/
theorem SplitMap.lookup_of_miss {m : SplitMap} {k : MapKey} (h : (m.set k.set).select k = none) (d : Policy) :
    m.lookup k d = (m, d, { hit := false, set := k.set, way := 0 }) := by
  simp [SplitMap.lookup, h]

theorem SplitMap.Ok.lookup {m : SplitMap} (h : m.Ok) (k : MapKey) {d : Policy} (hd : d.InRange) :
    (m.lookup k d).1.Ok ∧ (m.lookup k d).2.1.InRange := by
  have set := h.1 k.set
  cases found : (m.set k.set).select k with
  | none => rw [SplitMap.lookup_of_miss found]; exact ⟨h, hd⟩
  | some w => rw [SplitMap.lookup_of_hit found]; exact ⟨h.putSet (set.moveFront w), set.2.2 w⟩

/-- Which map a lookup leaves does not depend on the defaults. -/
theorem SplitMap.Ok.lookup_map {m : SplitMap} (h : m.Ok) (k : MapKey) (d : Policy) : (m.lookup k d).1.Ok := by
  have set := h.1 k.set
  cases found : (m.set k.set).select k with
  | none => rwa [SplitMap.lookup_of_miss found]
  | some w => rw [SplitMap.lookup_of_hit found]; exact h.putSet (set.moveFront w)

theorem SplitMap.reset_set (n : Fin 16) : SplitMap.reset.set n =
    { ways := Vector.replicate 4 { valid := false, content := Content.reset }, lru := lruReset } :=
  Vector.getElem_replicate n.isLt

theorem SplitMap.reset_entry (n : Fin 16) (w : Fin 4) :
    (SplitMap.reset.set n).entry w = { valid := false, content := Content.reset } := by
  rw [SplitMap.reset_set]
  exact Vector.getElem_replicate w.isLt

theorem SplitMap.reset_ok : SplitMap.reset.Ok := by
  refine ⟨fun n => ⟨?_, fun v w _ hv => ?_, fun w => ?_⟩, by decide, trivial⟩
  · rw [SplitMap.reset_set]
    exact List.Perm.refl _
  · rw [SplitMap.reset_entry] at hv
    cases hv
  · rw [SplitMap.reset_entry]
    decide

/-! ### O31 -/

/-- Under AUTO the way written is the lowest invalid one (R46). -/
theorem MapSet.chooseWay_auto_of_invalid {m : MapSet} (h : ∃ v, (m.entry v).valid = false) :
    (m.entry (m.chooseWay .auto)).valid = false ∧ ∀ v < m.chooseWay .auto, (m.entry v).valid = true := by
  have sorted : allWays.Pairwise fun v w => v.val < w.val := by decide
  have found : (allWays.find? fun w => !(m.entry w).valid).isSome = true := by
    rw [List.find?_isSome]
    obtain ⟨v, hv⟩ := h
    exact ⟨v, mem_allWays v, by simp [hv]⟩
  obtain ⟨w, hw⟩ := Option.isSome_iff_exists.1 found
  have chosen : m.chooseWay .auto = w := by simp [MapSet.chooseWay, hw]
  obtain ⟨invalid, lower⟩ := (find?_eq_some_iff_of_pairwise sorted (mem_allWays w)).1 hw
  rw [chosen]
  exact ⟨by simpa using invalid, fun v less => by simpa using lower v (mem_allWays v) less⟩

/-- Under AUTO in a full set the way written is the last of the order (R46). -/
theorem MapSet.chooseWay_auto_of_full {m : MapSet} (order : m.OrderOk) (h : ∀ v, (m.entry v).valid = true) :
    m.lru.getLast? = some (m.chooseWay .auto) := by
  have none : allWays.find? (fun w => !(m.entry w).valid) = none := by simp [h]
  have nonempty : m.lru ≠ [] := List.ne_nil_of_mem (order.mem 0)
  simp [MapSet.chooseWay, none, List.getLast?_eq_some_getLast nonempty]

/-- Settles O31: the write in a sound set, the flush cell by cell, and the empty slot. -/
theorem pendingMapOperationApplied : Obligations.PendingMapOperationApplied := by
  unfold Obligations.PendingMapOperationApplied
  refine ⟨fun m c n choice ok slot => ?_, fun m slot => ?_, fun m => SplitMap.applyPending_of_empty⟩
  · obtain ⟨written, others, -, lru⟩ := (ok.1 n).applyWrite_eq c choice
    rw [SplitMap.applyPending_of_write slot]
    have changed : (({ m.putSet n ((m.set n).applyWrite c choice) with slot := .empty } : SplitMap).set n) =
        (m.set n).applyWrite c choice := m.set_putSet_same n _
    refine ⟨(m.set n).chooseWay choice, ?_⟩
    rw [changed]
    refine ⟨?_, ?_, ?_, written, others, lru, fun k other => m.set_putSet_ne _ other, rfl, rfl, rfl⟩
    · rintro v rfl
      rfl
    · rintro rfl
      exact MapSet.chooseWay_auto_of_invalid
    · rintro rfl
      exact MapSet.chooseWay_auto_of_full (ok.1 n).1
  · rw [SplitMap.applyPending_of_flush slot]
    refine ⟨fun n w => ?_, fun n => ?_, rfl, rfl, rfl, fun n k => ?_⟩
    · rw [m.set_flushed, MapSet.flush_entry]
    · rw [m.set_flushed]
      rfl
    · rw [m.set_flushed, MapSet.select_eq_iff]
      intro w _
      simp [MapSet.flush_entry, Entry.matchesKey]

/-! ### MAP_FLUSH (R50) -/

theorem flushMap_of_empty {s : State} (h : s.map.slot = .empty) (l : Link) (p : List Byte) :
    flushMap l p s = ({ s with map := { s.map with slot := .flush } }, some (bare .ok)) := by
  simp [flushMap, SplitMap.pendingFlag_eq_false.2 h]

theorem flushMap_of_occupied {s : State} (h : s.map.slot ≠ .empty) (l : Link) (p : List Byte) :
    flushMap l p s = (s, some (bare .pendingBusy)) := by
  rw [Ne, ← SplitMap.pendingFlag_eq_false, Bool.not_eq_false] at h
  simp [flushMap, h]

/-- Settles O28: the slot is empty or occupied. -/
theorem mapFlushJudged : Obligations.MapFlushJudged := by
  unfold Obligations.MapFlushJudged
  intro s l f h hp
  exact ⟨fun empty => serve_map_changed h hp (flushMap_of_empty (s := s.dequeue l) empty l _),
    fun occupied => serve_unchanged h hp (flushMap_of_occupied (s := s.dequeue l) occupied l _)⟩

/-! ### MAP_READ and MAP_PROBE (R51, R52) -/

theorem readEntry_of_bad_field {p : List Byte} (h : 15 < u8 p 0 ∨ 3 < u8 p 1) (l : Link) (s : State) :
    readEntry l p s = (s, some (bare .badField)) := by
  unfold readEntry
  split
  next n w hn hw =>
    obtain set | way := h
    · rw [setOfByte_none set] at hn
      cases hn
    · obtain ⟨auto, -⟩ | ⟨v, -, e⟩ := wayChoiceOf_eq_some.1 hw
      · cases auto
      · omega
  next => rfl

theorem EntryKey.bytes_eq (k : EntryKey) :
    k.bytes = [BitVec.ofNat 8 k.load.toNat, BitVec.ofNat 8 k.grade.toNat, BitVec.ofNat 8 k.speed.toNat] := rfl

theorem Policy.bytes_eq (p : Policy) : p.bytes =
    [BitVec.ofNat 8 p.share, BitVec.ofNat 8 (p.share / 256), BitVec.ofNat 8 p.slipTarget, BitVec.ofNat 8 p.gain,
     BitVec.ofNat 8 p.transferCap, BitVec.ofNat 8 (p.transferCap / 256)] := by
  simp [Policy.bytes, nat2_eq, byte1]

theorem lruByte_eq (o0 o1 o2 o3 : Fin 4) :
    lruByte [o0, o1, o2, o3] = BitVec.ofNat 8 (o0.val + 4 * o1.val + 16 * o2.val + 64 * o3.val) := by
  unfold lruByte
  congr 1
  simp only [List.foldr_cons, List.foldr_nil]
  omega

theorem MapSet.validMask_eq (m : MapSet) :
    m.validMask = BitVec.ofNat 8 ((m.entry 0).valid.toNat + 2 * (m.entry 1).valid.toNat + 4 * (m.entry 2).valid.toNat +
      8 * (m.entry 3).valid.toNat) := by
  unfold MapSet.validMask flagByte allWays
  congr 1
  simp only [List.map_cons, List.map_nil, List.foldr_cons, List.foldr_nil]
  omega

/-- An entry is read with its set's order and valid mask (R51, 09 §9.6). -/
theorem readEntry_of_location {p : List Byte} {n : Fin 16} {w : Fin 4} (hn : u8 p 0 = n.val) (hw : u8 p 1 = w.val)
    (l : Link) (s : State) :
    readEntry l p s = (s, some {
      status := .ok
      data := byte1 ((s.map.set n).entry w).valid.toNat ++ ((s.map.set n).entry w).content.key.bytes ++
        ((s.map.set n).entry w).content.policy.bytes ++ [lruByte (s.map.set n).lru, (s.map.set n).validMask] }) := by
  simp [readEntry, hn, hw]

theorem probeMap_of_bad_field {p : List Byte}
    (h : 7 < u8 p 0 ∨ 1 < u8 p 1 ∨ 7 < u8 p 2 ∨ 7 < u8 p 3 ∨ 7 < u8 p 4) (l : Link) (s : State) :
    probeMap l p s = (s, some (bare .badField)) := by
  unfold probeMap
  split
  next mode trailer load grade speed hmode htrailer hload hgrade hspeed =>
    obtain bad | bad | bad | bad | bad := h
    · rw [bandOf_none bad] at hmode; cases hmode
    · rw [flagOfByte_none bad] at htrailer; cases htrailer
    · rw [bandOf_none bad] at hload; cases hload
    · rw [bandOf_none bad] at hgrade; cases hgrade
    · rw [bandOf_none bad] at hspeed; cases hspeed
  next => rfl

/-- The policy that a probe answers: the selected entry's, or the active defaults (R52). -/
def State.probed (s : State) (k : MapKey) : Policy :=
  (((s.map.set k.set).select k).map fun w => ((s.map.set k.set).entry w).content.policy).getD s.act.active.defaultPolicy

theorem probeMap_of_key {p : List Byte} {k : MapKey} (hset : u8 p 0 * 2 + u8 p 1 = k.set.val) (htrailer : u8 p 1 ≤ 1)
    (hload : u8 p 2 = k.load.val) (hgrade : u8 p 3 = k.grade.val) (hspeed : u8 p 4 = k.speed.val) (l : Link) (s : State) :
    probeMap l p s = (s, some {
      status := .ok
      data := byte1 ((s.map.set k.set).select k).isSome.toNat ++ byte1 (((s.map.set k.set).select k).getD 0).val ++
        (s.probed k).bytes }) := by
  have := k.set.isLt
  have mode : bandOf (u8 p 0) = some ⟨u8 p 0, by omega⟩ := bandOf_val ⟨u8 p 0, by omega⟩
  have set : setOf ⟨u8 p 0, by omega⟩ (decide (u8 p 1 = 1)) = k.set := by
    apply Fin.ext
    simp only [setOf, ← hset, Nat.add_left_cancel_iff]
    obtain zero | one : u8 p 1 = 0 ∨ u8 p 1 = 1 := by omega
    · simp [zero]
    · simp [one]
  have key : ({ set := k.set, load := k.load, grade := k.grade, speed := k.speed } : MapKey) = k := rfl
  unfold probeMap State.probed
  rw [mode, flagOfByte_some htrailer, hload, hgrade, hspeed, bandOf_val, bandOf_val, bandOf_val]
  dsimp only
  rw [set, key]
  cases (s.map.set k.set).select k <;> rfl

/-- Settles O29: the location or the key that the bytes name, and the answer's bytes. -/
theorem mapReadAndProbeAnswered : Obligations.MapReadAndProbeAnswered := by
  unfold Obligations.MapReadAndProbeAnswered
  intro s l f o0 o1 o2 o3 h
  refine ⟨fun hp => ⟨fun bad => serve_unchanged h hp (readEntry_of_bad_field bad l _), ?_⟩,
    fun hp => ⟨fun bad => serve_unchanged h hp (probeMap_of_bad_field bad l _), ?_⟩⟩
  · intro n w hn hw lru e valid
    have answer : exec .mapRead s = _ := serve_unchanged_with_data h hp (readEntry_of_location hn hw l (s.dequeue l))
    rw [answer, State.dequeue_map, lru, lruByte_eq, MapSet.validMask_eq, Policy.bytes_eq, EntryKey.bytes_eq]
    rfl
  · intro k hset htrailer hload hgrade hspeed found p
    have answer : exec .mapProbe s = _ :=
      serve_unchanged_with_data h hp (probeMap_of_key hset htrailer hload hgrade hspeed l (s.dequeue l))
    have policy : (s.dequeue l).probed k = p := by
      simp only [p, State.probed, State.dequeue_map, State.dequeue_act, found]
      cases (s.map.set k.set).select k <;> rfl
    rw [answer, policy, Policy.bytes_eq]
    rfl

end Sys2Proof.Machine
end

section
/-! SUPPORT. The Input Image: the input frames, the ages, what keeps the image in range, and the proofs of O18 to
O21. -/

namespace Sys2Proof.Machine

/-- What an owner changes in the Input Image alone, unanswered. -/
theorem serve_image_changed {k : Kind} {owner : Owner} {s : State} {l : Link} {f : Frame} {i : Image}
    (h : s.Serves l f) (hp : f.Passes k l)
    (e : owner l f.payload (s.dequeue l) = ({ s.dequeue l with image := i }, none)) :
    serve k owner s = .next { s.dequeue l with image := i } := by
  rw [serve_owner h hp, e]
  rfl

/-- A clamp to a range around zero changes a value exactly when its magnitude is above the range. -/
theorem clampInt_ne_iff {hi v : Int} : clampInt (-hi) hi v ≠ v ↔ hi < |v| := by
  unfold clampInt
  rw [abs_eq_max_neg]
  split_ifs <;> omega

theorem min_ne_left_iff {v hi : Nat} : min v hi ≠ v ↔ hi < v := by omega

/-! ### The input frames (R95 to R99) -/

section
variable {p : List Byte} (l : Link) (s : State)

theorem takeDemand_of_bad_field (h : 7 < u8 p 2 ∨ 1 < u8 p 3) : takeDemand l p s = (s, some (bare .badField)) := by
  unfold takeDemand
  split
  next mode =>
    obtain bad | bad := h
    · omega
    · rw [flagOfByte_none bad]
  next => rfl

/-- A DEMAND in range replaces the record (R95, R99). -/
theorem takeDemand_of_mode {m : Fin 8} (mode : u8 p 2 = m.val) (trailer : u8 p 3 ≤ 1) :
    takeDemand l p s = ({ s with image := { s.image with
      demand :=
        { fields := { demand := clampInt (-16000) 16000 (s16 p 0), mode := m, trailer := decide (u8 p 3 = 1)
                      mass := u16 p 4, grade := clampInt (-400) 400 (s16 p 6) }
          age := 0 }
      inputClamped := s.image.inputClamped || decide (16000 < |s16 p 0| ∨ 400 < |s16 p 6|) } }, none) := by
  have inRange : u8 p 2 < 8 := mode ▸ m.isLt
  have named : (⟨u8 p 2, inRange⟩ : Fin 8) = m := Fin.ext mode
  unfold takeDemand
  rw [dif_pos inRange, flagOfByte_some trailer, named]
  simp only [clampInt_ne_iff]

theorem takeEnvelope_of_bad_field (h : 1 < u8 p 6) : takeEnvelope l p s = (s, some (bare .badField)) := by
  unfold takeEnvelope
  rw [flagOfByte_none h]

/-- An ENVELOPE in range replaces its axle's record (R96, R99). -/
theorem takeEnvelope_of_ready (h : u8 p 6 ≤ 1) :
    takeEnvelope l p s = ({ s with image := { s.image with
      envelope := s.image.envelope.set (axleOfLink l)
        { fields := { drive := min (u16 p 0) 16000, regen := min (u16 p 2) 16000, motorSpeed := s16 p 4
                      ready := decide (u8 p 6 = 1) }
          age := 0 }
      inputClamped := s.image.inputClamped || decide (16000 < u16 p 0 ∨ 16000 < u16 p 2) } }, none) := by
  unfold takeEnvelope
  rw [flagOfByte_some h]
  simp only [min_ne_left_iff]

theorem takeReference_of_bad_field (h : 1 < u8 p 2 ∨ 1 < u8 p 3) : takeReference l p s = (s, some (bare .badField)) := by
  unfold takeReference
  split
  next reverse valid hreverse hvalid =>
    obtain bad | bad := h
    · rw [flagOfByte_none bad] at hreverse; cases hreverse
    · rw [flagOfByte_none bad] at hvalid; cases hvalid
  next => rfl

/-- A REFERENCE in range replaces the record (R97). -/
theorem takeReference_of_flags (direction : u8 p 2 ≤ 1) (valid : u8 p 3 ≤ 1) :
    takeReference l p s = ({ s with image := { s.image with
      reference :=
        { fields := { magnitude := u16 p 0, direction := if u8 p 2 = 1 then .reverse else .forward
                      valid := decide (u8 p 3 = 1) }
          age := 0 } } }, none) := by
  unfold takeReference
  rw [flagOfByte_some direction, flagOfByte_some valid]
  simp only [decide_eq_true_eq]

end

/-- Settles O18: the two checks, and the record that a DEMAND in range leaves. -/
theorem demandKeptOrRefused : Obligations.DemandKeptOrRefused := by
  unfold Obligations.DemandKeptOrRefused
  intro s l f h hp
  refine ⟨fun bad => serve_unchanged h hp (takeDemand_of_bad_field l _ bad), fun m mode trailer => ?_⟩
  have kept := serve_image_changed h hp (takeDemand_of_mode l _ mode trailer)
  simp only [s16_eq, clampInt_eq (show (-16000 : Int) ≤ 16000 by decide), clampInt_eq (show (-400 : Int) ≤ 400 by decide)] at kept
  exact kept

theorem axleOfLink_link (a : Axle) : axleOfLink a.link = a := by cases a <;> rfl

/-- Settles O19: the one check, and the record that an ENVELOPE in range leaves. -/
theorem envelopeKeptOrRefused : Obligations.EnvelopeKeptOrRefused := by
  unfold Obligations.EnvelopeKeptOrRefused
  intro s a f h hp
  refine ⟨fun bad => serve_unchanged h hp (takeEnvelope_of_bad_field _ _ bad), fun ready => ?_⟩
  have kept := serve_image_changed h hp (takeEnvelope_of_ready _ _ ready)
  rw [axleOfLink_link, s16_eq, min_comm (u16 f.payload 0), min_comm (u16 f.payload 2)] at kept
  exact kept

/-- Settles O20: the two checks, and the record that a REFERENCE in range leaves. -/
theorem referenceKeptOrRefused : Obligations.ReferenceKeptOrRefused := by
  unfold Obligations.ReferenceKeptOrRefused
  intro s l f h hp
  exact ⟨fun bad => serve_unchanged h hp (takeReference_of_bad_field l _ bad),
    fun direction valid => serve_image_changed h hp (takeReference_of_flags l _ direction valid)⟩

/-! ### Ages (R101 to R105) -/

/-- Ages advance by one a take and stop at 255 (R101). -/
theorem Aged.advance_iterate {α : Type} (x : α) {n : Nat} (h : n ≤ 255) (k : Nat) :
    Aged.advance^[k] { fields := x, age := n } = { fields := x, age := min (n + k) 255 } := by
  induction k with
  | zero => simp [h]
  | succ k ih =>
    rw [Function.iterate_succ_apply', ih, Aged.advance]
    congr 1
    dsimp only
    omega

/-- Settles O21: the age after some takes, and the marking read off it. -/
theorem recordFreshForThreshold : Obligations.RecordFreshForThreshold := by
  unfold Obligations.RecordFreshForThreshold
  intro α x threshold takes low some r
  have age : r = { fields := x, age := min takes 255 } := by
    simpa using Aged.advance_iterate x (Nat.zero_le 255) takes
  refine ⟨?_, ?_, ?_, ?_, fun b => ?_⟩
  · rw [age, Bool.eq_iff_iff]
    simp only [Aged.mark, Bool.not_false, Bool.and_true, decide_eq_true_eq]
    omega
  · simp [Aged.mark]
  · rw [age]
    rfl
  · rw [age]
  · rw [Aged.advance_iterate x le_rfl]
    have old : ¬ 255 ≤ threshold := by omega
    simp [Aged.mark, old]

/-! ### What keeps the image in range (R94 to R97) -/

theorem Image.Ok.advance {i : Image} (h : i.Ok) : i.advance.Ok := by
  obtain ⟨demand, mass, grade, -, ⟨⟨driveF, regenF, speedF, -⟩, ⟨driveR, regenR, speedR, -⟩⟩, magnitude, -⟩ := h
  exact ⟨demand, mass, grade, min_le_right _ _,
    ⟨⟨driveF, regenF, speedF, min_le_right _ _⟩, ⟨driveR, regenR, speedR, min_le_right _ _⟩⟩, magnitude, min_le_right _ _⟩

theorem Image.Ok.clear {i : Image} (h : i.Ok) (b : Bool) : ({ i with inputClamped := b } : Image).Ok := h

/-- What the three input frames can do: refuse, or leave an image in range (R95 to R98). -/
def State.TakesImage (s : State) (r : State × Option Answer) : Prop :=
  (∃ st, r = (s, some (bare st))) ∨ ∃ i : Image, r = ({ s with image := i }, none) ∧ (s.image.Ok → i.Ok)

theorem takeDemand_cases (l : Link) (p : List Byte) (s : State) : s.TakesImage (takeDemand l p s) := by
  by_cases bad : 7 < u8 p 2 ∨ 1 < u8 p 3
  · exact .inl ⟨_, takeDemand_of_bad_field l s bad⟩
  · refine .inr ⟨_, takeDemand_of_mode (m := ⟨u8 p 2, by omega⟩) l s rfl (by omega), ?_⟩
    rintro ⟨-, -, -, -, rest⟩
    have := u16_lt p 4
    exact ⟨clampInt_mem (by decide) _, by dsimp only; omega, clampInt_mem (by decide) _, Nat.zero_le _, rest⟩

theorem PerAxle.All.set {α : Type} {x : PerAxle α} {P : α → Prop} (h : x.All P) (a : Axle) {y : α} (hy : P y) :
    (x.set a y).All P := by
  cases a
  · exact ⟨hy, h.2⟩
  · exact ⟨h.1, hy⟩

theorem takeEnvelope_cases (l : Link) (p : List Byte) (s : State) : s.TakesImage (takeEnvelope l p s) := by
  by_cases bad : 1 < u8 p 6
  · exact .inl ⟨_, takeEnvelope_of_bad_field l s bad⟩
  · refine .inr ⟨_, takeEnvelope_of_ready l s (by omega), ?_⟩
    rintro ⟨demand, mass, grade, age, envelope, rest⟩
    exact ⟨demand, mass, grade, age,
      envelope.set _ ⟨min_le_right _ _, min_le_right _ _, s16_mem p 4, Nat.zero_le _⟩, rest⟩

theorem takeReference_cases (l : Link) (p : List Byte) (s : State) : s.TakesImage (takeReference l p s) := by
  by_cases bad : 1 < u8 p 2 ∨ 1 < u8 p 3
  · exact .inl ⟨_, takeReference_of_bad_field l s bad⟩
  · refine .inr ⟨_, takeReference_of_flags l s (by omega) (by omega), ?_⟩
    rintro ⟨demand, mass, grade, age, envelope, -⟩
    have := u16_lt p 0
    exact ⟨demand, mass, grade, age, envelope, by dsimp only; omega, Nat.zero_le _⟩

end Sys2Proof.Machine
end

section
/-! SUPPORT. Allocator Control: the requests CONFIG_WRITE, ALLOC_ENABLE, ALLOC_DISABLE and STATUS_QUERY, what keeps
the configuration in range, and the proofs of O32, O34 and O37. -/

namespace Sys2Proof
open Machine

/-- What CONFIG_WRITE stores of a value (R136). -/
def Param.stored (q : Param) (value : Nat) : Nat := clampNat q.low q.high value

theorem Param.low_le_high (q : Param) : q.low ≤ q.high := by cases q <;> decide

theorem Param.stored_eq (q : Param) (value : Nat) : q.stored value = max q.low (min q.high value) :=
  clampNat_eq q.low_le_high value

theorem Param.stored_mem (q : Param) (value : Nat) : q.low ≤ q.stored value ∧ q.stored value ≤ q.high :=
  clampNat_mem q.low_le_high value

/-- The status of a CONFIG_WRITE (R136). -/
def Param.storedStatus (q : Param) (value : Nat) : Status := if q.stored value = value then .ok else .clamped

/-- The bytes that answer a CONFIG_WRITE (R136). -/
def Param.storedBytes (q : Param) (value pending : Nat) : List Byte :=
  [BitVec.ofNat 8 q.index.val, BitVec.ofNat 8 (q.stored value), BitVec.ofNat 8 (q.stored value / 256), BitVec.ofNat 8 pending]

theorem Param.exists_index (i : Fin 23) : ∃ q : Param, q.index = i := by
  have all : ∀ i : Fin 23, ∃ q ∈ Param.all, q.index = i := by decide
  obtain ⟨q, -, e⟩ := all i
  exact ⟨q, e⟩

theorem Param.mem_all (q : Param) : q ∈ Param.all := by cases q <;> decide

end Sys2Proof

namespace Sys2Proof.Machine

/-- What an owner changes in Allocator Control and in the sensors alone stands beside the answer. -/
theorem serve_act_changed {k : Kind} {owner : Owner} {s : State} {l : Link} {f : Frame} {st : Status}
    {data : List Byte} {x : Act} {y : PerAxle Asu} (h : s.Serves l f) (hp : f.Passes k l)
    (e : owner l f.payload (s.dequeue l) =
      ({ s.dequeue l with act := x, asu := y }, some { status := st, data := data })) :
    serve k owner s = .next { s.answered l f st data with act := x, asu := y } := by
  rw [serve_owner h hp, e]
  rfl

/-! ### CONFIG_WRITE (R136, R137) -/

section
variable {p : List Byte} (l : Link) (s : State)

theorem writeConfig_of_bad_index (h : 22 < u8 p 0) : writeConfig l p s = (s, some (bare .badField)) := by
  simp [writeConfig, Param.ofIndex_none h]

variable {q : Param} (hq : q.index.val = u8 p 0)
include hq

/-- In STANDBY the value becomes active at once (R137). -/
theorem writeConfig_of_standby (h : s.act.state = .standby) :
    writeConfig l p s =
      ({ s with
          act := { (s.act.putPending q none) with active := s.act.active.put q (q.stored (u16 p 1)) }
          asu := disarm s.act.active (s.act.active.put q (q.stored (u16 p 1))) s.asu },
       some { status := q.storedStatus (u16 p 1), data := q.storedBytes (u16 p 1) 0 }) := by
  simp [writeConfig, ← hq, Param.ofIndex_index, h, Param.storedStatus, Param.storedBytes, Param.stored, nat2_eq, byte1,
    State.setActive, Act.putPending]
  rfl

/-- In every other state the value becomes the pending one (R137). -/
theorem writeConfig_of_other (h : s.act.state ≠ .standby) :
    writeConfig l p s =
      ({ s with act := s.act.putPending q (some (q.stored (u16 p 1))), asu := s.asu },
       some { status := q.storedStatus (u16 p 1), data := q.storedBytes (u16 p 1) 1 }) := by
  simp [writeConfig, ← hq, Param.ofIndex_index, h, Param.storedStatus, Param.storedBytes, Param.stored, nat2_eq, byte1]
  rfl

end

/-- Settles O32: an index names a parameter or none; the value goes to the active set or to the pending values. -/
theorem configWriteJudged : Obligations.ConfigWriteJudged := by
  unfold Obligations.ConfigWriteJudged
  intro s l f h hp
  refine ⟨fun bad => serve_unchanged h hp (writeConfig_of_bad_index l _ bad), ?_⟩
  intro q hq stored status data
  have value : q.stored (u16 f.payload 1) = stored := q.stored_eq _
  have answer : q.storedStatus (u16 f.payload 1) = status := by rw [Param.storedStatus, value]
  have bytes : ∀ d, q.storedBytes (u16 f.payload 1) d = data d := fun d => by rw [Param.storedBytes, value]
  refine ⟨fun standby => ?_, fun other => ?_⟩
  · have written := serve_act_changed h hp (writeConfig_of_standby l (s.dequeue l) hq standby)
    rw [value, answer, bytes] at written
    refine ⟨_, written, rfl, rfl, ConfigSet.val_put_same _ _ _, Act.pendingOf_putPending_same _ _ _, fun r ne => ?_, fun a => ?_⟩
    · exact ⟨ConfigSet.val_put_ne _ _ ne.symm, Act.pendingOf_putPending_ne _ _ ne.symm⟩
    · exact disarm_get _ _ _ _
  · have written := serve_act_changed h hp (writeConfig_of_other l (s.dequeue l) hq other)
    rw [value, answer, bytes] at written
    exact ⟨_, written, rfl, rfl, Act.pendingOf_putPending_same _ _ _, fun r ne => Act.pendingOf_putPending_ne _ _ ne.symm⟩

/-! ### What keeps the configuration in range (R134) -/

/-- Every active value, and every pending one, lies in its parameter's range (R134). -/
def Act.InRange (x : Act) : Prop :=
  ∀ q : Param, (q.low ≤ x.active.val q ∧ x.active.val q ≤ q.high) ∧ ∀ v, x.pendingOf q = some v → q.low ≤ v ∧ v ≤ q.high

theorem State.configOk_iff {s : State} : s.ConfigOk ↔ s.act.InRange := Iff.rfl

theorem Act.InRange.putPending {x : Act} (h : x.InRange) {q : Param} {o : Option Nat}
    (ho : ∀ v, o = some v → q.low ≤ v ∧ v ≤ q.high) : (x.putPending q o).InRange := by
  intro r
  refine ⟨(h r).1, fun v hv => ?_⟩
  by_cases same : q = r
  · subst same
    rw [Act.pendingOf_putPending_same] at hv
    exact ho v hv
  · rw [Act.pendingOf_putPending_ne _ _ same] at hv
    exact (h r).2 v hv

theorem Act.InRange.putActive {x : Act} (h : x.InRange) {q : Param} {v : Nat} (hv : q.low ≤ v ∧ v ≤ q.high) :
    ({ x with active := x.active.put q v } : Act).InRange := by
  intro r
  refine ⟨?_, (h r).2⟩
  by_cases same : q = r
  · subst same
    rwa [ConfigSet.val_put_same]
  · rw [ConfigSet.val_put_ne _ _ same]
    exact (h r).1

/-- The pending values become active and none stays pending (R135). -/
theorem State.movePending_val (s : State) (q : Param) :
    s.movePending.act.active.val q = (s.act.pendingOf q).getD (s.act.active.val q) ∧ s.movePending.act.pendingOf q = none :=
  ⟨get_zipCells _ _ _ _, get_mapCells _ _ _⟩

theorem Act.InRange.movePending {s : State} (h : s.act.InRange) : s.movePending.act.InRange := by
  intro q
  rw [(s.movePending_val q).1, (s.movePending_val q).2]
  refine ⟨?_, fun v hv => nomatch hv⟩
  cases pending : s.act.pendingOf q with
  | none => exact (h q).1
  | some v => exact (h q).2 v pending

/-- The reset values lie in their ranges (R134). -/
theorem Act.reset_inRange : Act.reset.InRange := by
  intro q
  have value : Act.reset.active.val q = q.reset := by cases q <;> rfl
  have pending : Act.reset.pendingOf q = none := Vector.getElem_replicate q.index.isLt
  rw [value, pending]
  exact ⟨by cases q <;> decide, fun v hv => nomatch hv⟩

/-- The defaults of a configuration in range are a policy in range (R10, R134). -/
theorem ConfigSet.defaultPolicy_inRange {c : ConfigSet} (h : ∀ q : Param, q.low ≤ c.val q ∧ c.val q ≤ q.high) :
    c.defaultPolicy.InRange :=
  ⟨(h .defaultShare).2, (h .defaultSlipTarget).2, (h .defaultSlipGain).2, (h .defaultTransferCap).2⟩

/-! ### ALLOC_ENABLE and ALLOC_DISABLE (R126, R127) -/

theorem enableAlloc_of_high {s : State} (h : s.act.filtered = true) (l : Link) (p : List Byte) :
    enableAlloc l p s = ({ s with act := { s.act with state := .run } }, some { status := .ok, data := [1] }) := by
  simp [enableAlloc, h, State.setAlloc, byte1, AllocState.code]

theorem enableAlloc_of_low {s : State} (h : s.act.filtered = false) (l : Link) (p : List Byte) :
    enableAlloc l p s = (s, some { status := .wrongState, data := [BitVec.ofNat 8 s.act.state.code] }) := by
  simp [enableAlloc, h, byte1]

theorem disableAlloc_eq (l : Link) (p : List Byte) (s : State) :
    disableAlloc l p s = ({ s with act := { s.act with state := s.act.state.disabled } },
      some { status := .ok, data := [BitVec.ofNat 8 s.act.state.disabled.code] }) := rfl

/-- Settles O34: the filtered level decides over ENABLE, the state over DISABLE. -/
theorem enableAndDisable : Obligations.EnableAndDisable := by
  unfold Obligations.EnableAndDisable
  intro s l f h
  refine ⟨fun hp => ⟨fun high => ?_, fun low => ?_⟩, fun hp => ⟨fun running => ?_, fun off => ?_⟩,
    fun st data => s.answered_ale l f st data⟩
  · exact serve_act_changed h hp (enableAlloc_of_high (s := s.dequeue l) high l _)
  · exact serve_unchanged_with_data h hp (enableAlloc_of_low (s := s.dequeue l) low l _)
  · have answer := serve_act_changed h hp (disableAlloc_eq l _ (s.dequeue l))
    obtain state | state := running
    · rw [State.dequeue_act, state] at answer
      exact answer
    · rw [State.dequeue_act, state] at answer
      exact answer
  · have answer := serve_act_changed h hp (disableAlloc_eq l _ (s.dequeue l))
    obtain state | state := off
    · rw [State.dequeue_act, state] at answer
      exact answer
    · rw [State.dequeue_act, state] at answer
      exact answer

/-! ### STATUS_QUERY (R149) -/

/-- Any pending flag is set, parameter by parameter (R135). -/
theorem Act.anyPending_eq (x : Act) : x.anyPending = Param.all.any fun q => (x.pendingOf q).isSome := by
  rw [Bool.eq_iff_iff, Act.anyPending, List.any_eq_true, List.any_eq_true]
  constructor
  · rintro ⟨o, mem, some⟩
    obtain ⟨i, hi, rfl⟩ := List.getElem_of_mem mem
    obtain ⟨q, hq⟩ := Param.exists_index ⟨i, by simpa using hi⟩
    refine ⟨q, q.mem_all, ?_⟩
    rw [Act.pendingOf, hq]
    exact some
  · rintro ⟨q, -, some⟩
    refine ⟨x.pendingOf q, ?_, some⟩
    exact List.getElem_mem (l := x.pendingVals.toArray.toList) (n := q.index.val) (by simp)

theorem SplitMap.pendingFlag_eq (m : SplitMap) : m.pendingFlag = decide (m.slot ≠ .empty) := by
  unfold SplitMap.pendingFlag
  cases m.slot <;> simp

theorem SyncMode.flag_eq (m : SyncMode) : m.flag = decide (m = .synced) := by cases m <;> rfl

/-- Four flags in the low bits of a byte (09 §9.6). -/
theorem flagByte_four (b0 b1 b2 b3 : Bool) :
    flagByte [b0, b1, b2, b3] = BitVec.ofNat 8 (b0.toNat + 2 * b1.toNat + 4 * b2.toNat + 8 * b3.toNat) := by
  unfold flagByte
  congr 1
  simp only [List.foldr_cons, List.foldr_nil]
  omega

/-- The flag byte of STATUS_QUERY: bits 0, 2 and 6 are clear (09 §9.6). -/
theorem flagByte_query (b1 b3 b4 b5 b7 : Bool) : flagByte [false, b1, false, b3, b4, b5, false, b7] =
    BitVec.ofNat 8 (2 * b1.toNat + 8 * b3.toNat + 16 * b4.toNat + 32 * b5.toNat + 128 * b7.toNat) := by
  unfold flagByte
  congr 1
  simp only [List.foldr_cons, List.foldr_nil, Bool.toNat_false]
  omega

theorem Published.figures_eq (p : Published) : p.figures =
    [BitVec.ofInt 8 p.torque.front, BitVec.ofInt 8 (p.torque.front / 256),
     BitVec.ofInt 8 p.torque.rear, BitVec.ofInt 8 (p.torque.rear / 256),
     BitVec.ofInt 8 p.demand, BitVec.ofInt 8 (p.demand / 256),
     BitVec.ofInt 8 p.shortfall, BitVec.ofInt 8 (p.shortfall / 256),
     BitVec.ofNat 8 p.share, BitVec.ofNat 8 (p.share / 256)] := by
  simp [Published.figures, int2_eq, nat2_eq]

theorem Ptm.countByte_eq (p : Ptm) : p.countByte = p.periodCount.setWidth 8 := by
  apply BitVec.eq_of_toNat_eq
  simp [Ptm.countByte]

theorem queryStatus_eq (l : Link) (p : List Byte) (s : State) : queryStatus l p s = (s, some {
    status := .ok
    data := byte1 s.act.state.code ++ s.ale.published.figures ++
      [s.ptm.countByte,
       flagByte [false, s.ale.published.demandStale, false, s.act.anyPending, s.map.pendingFlag, s.ptm.mode.flag,
                 false, s.ale.published.mapMiss],
       s.faultMask] }) := rfl

/-- Settles O37: the answer's bytes one by one. -/
theorem statusQueryAnswered : Obligations.StatusQueryAnswered := by
  unfold Obligations.StatusQueryAnswered
  intro s l f h hp p faulted
  have mask : (s.dequeue l).faultMask =
      BitVec.ofNat 8 (faulted .vsc + 2 * faulted .fdi + 4 * faulted .rdi + 8 * faulted .sbc) := by
    have same : ∀ m, ((s.dequeue l).liuOf m).faulted = (s.liuOf m).faulted := fun m => by
      by_cases own : m = l
      · rw [own, State.liuOf_dequeue_same]
      · rw [State.liuOf_dequeue_ne s own]
    simp only [State.faultMask, Link.all, List.map_cons, List.map_nil, same]
    exact flagByte_four _ _ _ _
  have answer : exec .statusQuery s = _ := serve_unchanged_with_data h hp (queryStatus_eq l f.payload (s.dequeue l))
  rw [mask, Published.figures_eq, flagByte_query, Act.anyPending_eq, SplitMap.pendingFlag_eq, SyncMode.flag_eq,
    Ptm.countByte_eq] at answer
  exact answer

end Sys2Proof.Machine
end

section
/-! SUPPORT. The Axle Speed Units: edges, the index check, sensor health, window speeds, what keeps a unit in range,
and the proofs of O38 to O42. -/

namespace Sys2Proof.Machine

/-! ### Edges (R75 to R77) -/

/-- One place forward along the sequence of R75, as the two ways of writing the sequence say it. -/
theorem quadDirection_eq (a b a' b' : Bool) :
    quadDirection a b a' b' = if forwardNext (a, b) = (a', b') then .forward else .reverse := by
  revert a b a' b'
  decide

theorem Asu.edgeDirection_eq (u : Asu) (p : Phase) : u.edgeDirection p =
    if forwardNext (u.levelA, u.levelB) = ((u.toggle p).levelA, (u.toggle p).levelB) then .forward else .reverse := by
  cases p <;> exact quadDirection_eq _ _ _ _

/-- A change of one line that is not one place forward is one place back (R75). -/
theorem forwardNext_of_reverse (u : Asu) (p : Phase) (h : u.edgeDirection p = .reverse) :
    forwardNext ((u.toggle p).levelA, (u.toggle p).levelB) = (u.levelA, u.levelB) := by
  have back : ∀ a b : Bool, (forwardNext (a, b) ≠ (!a, b) → forwardNext (!a, b) = (a, b)) ∧
      (forwardNext (a, b) ≠ (a, !b) → forwardNext (a, !b) = (a, b)) := by decide
  have away : forwardNext (u.levelA, u.levelB) ≠ ((u.toggle p).levelA, (u.toggle p).levelB) := fun same => by
    rw [u.edgeDirection_eq, if_pos same] at h
    cases h
  cases p
  · exact (back _ _).1 away
  · exact (back _ _).2 away

theorem saturate_eq (n : Int) : saturate n = min 32767 (max (-32767) n) := by
  rw [saturate, clampInt_eq (by decide)]
  omega

/-- A counted edge, field by field (R75, R77). -/
theorem Asu.countEdge_eq (u : Asu) (p : Phase) (now : Time) :
    let d := u.edgeDirection p
    let turned := u.lastDir ≠ none ∧ u.lastDir ≠ some d
    u.countEdge p now = { u with
      levelA := (u.toggle p).levelA, levelB := (u.toggle p).levelB
      windowCount := saturate (u.windowCount + d.count), sinceIndex := saturate (u.sinceIndex + d.count)
      history := if turned then [{ time := now, dir := d }] else (({ time := now, dir := d } : EdgeEntry) :: u.history).take 5
      dirChanged := u.dirChanged || decide turned
      lastDir := some d } := by
  intro d turned
  by_cases same : u.lastDir = none ∨ u.lastDir = some d
  · have straight : ¬ turned := fun ⟨h1, h2⟩ => same.elim h1 h2
    cases p <;> simp [Asu.countEdge, Asu.enterEdge, Asu.toggle, same, straight, d]
  · have turns : turned := not_or.1 same
    have goesOn : ¬ (u.lastDir = none ∨ u.lastDir = some (u.edgeDirection p)) := same
    cases p <;> simp [Asu.countEdge, Asu.enterEdge, Asu.toggle, turns, d, goesOn]

theorem Asu.historyExpired_iff {u : Asu} {now : Time} :
    u.historyExpired now = true ↔ ∃ e es, u.history = e :: es ∧ 65536 ≤ elapsed e.time now := by
  unfold Asu.historyExpired
  cases u.history <;> simp [historyMicros]

section
variable {s : State} (run : s.inReset = false) (a : Axle)
include run

theorem exec_countedEdge (p : Phase) : exec (.countedEdge a p) s =
    .next { s with
      asu := s.asu.set a ((s.asuOf a).countEdge p s.timeBase)
      pins := { s.pins with sensor := s.pins.sensor.set a { s.pins.sensor.get a with
        a := ((s.asuOf a).countEdge p s.timeBase).levelA, b := ((s.asuOf a).countEdge p s.timeBase).levelB } } } :=
  congrArg _ (State.live_of_run run _)

theorem exec_phaseError : exec (.phaseError a) s =
    .next { s with
      asu := s.asu.set a (s.asuOf a).takePhaseError
      pins := { s.pins with sensor := s.pins.sensor.set a { s.pins.sensor.get a with
        a := !(s.asuOf a).levelA, b := !(s.asuOf a).levelB } } } :=
  congrArg _ (State.live_of_run run _)

theorem exec_edgeHistoryExpiry : exec (.edgeHistoryExpiry a) s =
    .next (s.when ((s.asuOf a).historyExpired s.timeBase) fun s => s.modAsu a fun u => { u with history := [] }) :=
  congrArg _ (State.live_of_run run _)

theorem exec_zRisingEdge : exec (.zRisingEdge a) s =
    .next { s with
      asu := s.asu.set a { (s.asuOf a).indexEdge (s.act.active.indexUse a) (s.act.active.cpr a)
        (s.act.active.val .indexTolerance) with levelZ := true }
      pins := { s.pins with sensor := s.pins.sensor.set a { s.pins.sensor.get a with z := true } } } :=
  congrArg _ (State.live_of_run run _)

end

/-- Settles O38: the direction along the sequence, the edge field by field, and the expiry. -/
theorem countedEdgeAndHistory : Obligations.CountedEdgeAndHistory := by
  unfold Obligations.CountedEdgeAndHistory
  intro s a p run u pair dir turned entry moved
  have levels : pair = ((u.toggle p).levelA, (u.toggle p).levelB) := by cases p <;> rfl
  have direction : u.edgeDirection p = dir := by rw [u.edgeDirection_eq, ← levels]
  have counts : ∀ n, saturate (n + dir.count) = moved n := fun n => by
    rw [saturate_eq]
    simp only [moved]
    cases dir <;> rfl
  refine ⟨fun back => ?_, ?_, fun e es hist old => ?_⟩
  · rw [levels]
    exact forwardNext_of_reverse u p (direction.trans back)
  · have edge := u.countEdge_eq p s.timeBase
    simp only [direction, counts] at edge
    rw [exec_countedEdge run, levels, show (s.asuOf a).countEdge p s.timeBase = _ from edge]
  · have expired : (s.asuOf a).historyExpired s.timeBase = true := Asu.historyExpired_iff.2 ⟨e, es, hist, old⟩
    rw [exec_edgeHistoryExpiry run, expired, State.when_true]
    rfl

/-! ### The index check (R83, R84) -/

/-- A count within the tolerance of CPR, as one distance (R84). -/
theorem indexMatches_iff {count : Int} {cpr tolerance : Nat} :
    indexMatches count cpr tolerance = true ↔ ((count.natAbs : Int) - cpr).natAbs ≤ tolerance := by
  simp only [indexMatches, decide_eq_true_eq]
  omega

section
variable {u : Asu} {cpr tolerance : Nat}

theorem Asu.indexEdge_of_disabled : u.indexEdge false cpr tolerance = { u with sinceIndex := 0, dirChanged := false } := by
  simp [Asu.indexEdge]

theorem Asu.indexEdge_of_unarmed (h : u.armed = false) :
    u.indexEdge true cpr tolerance = { u with sinceIndex := 0, dirChanged := false, armed := true } := by
  simp [Asu.indexEdge, h]

theorem Asu.indexEdge_of_turned (h : u.armed = true) (turned : u.dirChanged = true) :
    u.indexEdge true cpr tolerance = { u with sinceIndex := 0, dirChanged := false } := by
  simp [Asu.indexEdge, h, turned]

theorem Asu.indexEdge_of_match (h : u.armed = true) (straight : u.dirChanged = false)
    (near : ((u.sinceIndex.natAbs : Int) - cpr).natAbs ≤ tolerance) :
    u.indexEdge true cpr tolerance = { u.goodEvidence with sinceIndex := 0 } := by
  simp [Asu.indexEdge, h, straight, indexMatches_iff.2 near]

theorem Asu.indexEdge_of_miss (h : u.armed = true) (straight : u.dirChanged = false)
    (far : tolerance < ((u.sinceIndex.natAbs : Int) - cpr).natAbs) :
    u.indexEdge true cpr tolerance = { u.badEvidence with sinceIndex := 0 } := by
  have miss : ¬ indexMatches u.sinceIndex cpr tolerance = true := by rw [indexMatches_iff]; omega
  simp [Asu.indexEdge, h, straight, miss]

end

/-- Settles O40: the five cases of the check. -/
theorem zRisingEdgeChecksIndex : Obligations.ZRisingEdgeChecksIndex := by
  unfold Obligations.ZRisingEdgeChecksIndex
  intro s a run u c off after
  refine ⟨fun disabled => ?_, fun enabled unarmed => ?_, fun enabled armed turned => ?_,
    fun enabled armed straight near => ?_, fun enabled armed straight far => ?_⟩
  · rw [exec_zRisingEdge run, show s.act.active.indexUse a = false from disabled, Asu.indexEdge_of_disabled]
  · rw [exec_zRisingEdge run, show s.act.active.indexUse a = true from enabled, Asu.indexEdge_of_unarmed unarmed]
  · rw [exec_zRisingEdge run, show s.act.active.indexUse a = true from enabled, Asu.indexEdge_of_turned armed turned]
  · rw [exec_zRisingEdge run, show s.act.active.indexUse a = true from enabled, Asu.indexEdge_of_match armed straight near]
  · rw [exec_zRisingEdge run, show s.act.active.indexUse a = true from enabled, Asu.indexEdge_of_miss armed straight far]

/-- Settles O39: after a phase error the unit is unarmed, so the next Z edge arms it or, with the check disabled,
leaves it unarmed; neither gives evidence. -/
theorem phaseErrorMarksWindow : Obligations.PhaseErrorMarksWindow := by
  unfold Obligations.PhaseErrorMarksWindow
  intro s a run
  refine ⟨_, exec_phaseError run a, by simp [State.asuOf, Asu.takePhaseError], by simp [State.asuOf],
    by simp [State.asuOf, Asu.takePhaseError], ⟨_, exec_phaseError (by exact run) a, ?_⟩,
    ⟨_, exec_zRisingEdge (by exact run) a, ?_⟩⟩
  · simp [State.asuOf, Asu.takePhaseError]
  · simp only [State.asuOf, PerAxle.get_set_same]
    cases enabled : s.act.active.indexUse a
    · rw [Asu.indexEdge_of_disabled]
      simp [Asu.takePhaseError]
    · rw [Asu.indexEdge_of_unarmed rfl]
      simp [Asu.takePhaseError]

/-! ### Sensor health (R87) -/

section
variable {u : Asu}

theorem Asu.badEvidence_of_fault (h : u.health = .fault) : u.badEvidence = { u with faultCount := 3, goodRun := 0 } := by
  simp [Asu.badEvidence, h]

theorem Asu.badEvidence_of_not_fault (h : u.health ≠ .fault) : u.badEvidence = { u with
    faultCount := min (u.faultCount + 1) 3, goodRun := 0, health := if u.faultCount + 1 < 3 then .suspect else .fault } := by
  unfold Asu.badEvidence
  split
  · contradiction
  · rfl
  · rfl

theorem Asu.goodEvidence_of_fault (h : u.health = .fault) : u.goodEvidence =
    if u.goodRun + 1 < 16 then { u with goodRun := u.goodRun + 1 }
    else { u with goodRun := 16, health := .good, faultCount := 0 } := by
  simp [Asu.goodEvidence, h]

theorem Asu.goodEvidence_of_not_fault (h : u.health ≠ .fault) :
    u.goodEvidence = { u with faultCount := 0, goodRun := min (u.goodRun + 1) 16, health := .good } := by
  unfold Asu.goodEvidence
  split
  · contradiction
  · rfl
  · rfl

theorem Asu.healthOk_good (h : u.health = .good) : u.HealthOk ↔ u.faultCount = 0 ∧ u.goodRun ≤ 16 := by
  unfold Asu.HealthOk
  rw [h]

theorem Asu.healthOk_suspect (h : u.health = .suspect) :
    u.HealthOk ↔ (u.faultCount = 1 ∨ u.faultCount = 2) ∧ u.goodRun = 0 := by
  unfold Asu.HealthOk
  rw [h]

theorem Asu.healthOk_fault (h : u.health = .fault) : u.HealthOk ↔ u.faultCount = 3 ∧ u.goodRun ≤ 15 := by
  unfold Asu.HealthOk
  rw [h]

/-- The fault count of a sensor that is not in FAULT is below 3 (R87). -/
theorem Asu.HealthOk.faultCount_le (h : u.HealthOk) (up : u.health ≠ .fault) : u.faultCount ≤ 2 := by
  cases health : u.health with
  | good => rw [Asu.healthOk_good health] at h; omega
  | suspect => rw [Asu.healthOk_suspect health] at h; omega
  | fault => contradiction

theorem Asu.HealthOk.badEvidence (h : u.HealthOk) : u.badEvidence.HealthOk := by
  by_cases down : u.health = .fault
  · rw [Asu.badEvidence_of_fault down, Asu.healthOk_fault (by exact down)]
    exact ⟨rfl, Nat.zero_le _⟩
  · have few := h.faultCount_le down
    rw [Asu.badEvidence_of_not_fault down]
    by_cases more : u.faultCount + 1 < 3
    · rw [Asu.healthOk_suspect (if_pos more)]
      exact ⟨by dsimp only; omega, rfl⟩
    · rw [Asu.healthOk_fault (if_neg more)]
      exact ⟨by dsimp only; omega, Nat.zero_le _⟩

theorem Asu.HealthOk.goodEvidence (h : u.HealthOk) : u.goodEvidence.HealthOk := by
  by_cases down : u.health = .fault
  · rw [Asu.goodEvidence_of_fault down]
    split_ifs with fewer
    · rw [Asu.healthOk_fault down] at h
      rw [Asu.healthOk_fault (by exact down)]
      exact ⟨h.1, by dsimp only; omega⟩
    · rw [Asu.healthOk_good (by rfl)]
      exact ⟨rfl, le_rfl⟩
  · rw [Asu.goodEvidence_of_not_fault down, Asu.healthOk_good (by rfl)]
    exact ⟨rfl, min_le_right _ _⟩

/-- Good evidence in a row counts up in FAULT, and the sixteenth brings the sensor back (R87). -/
theorem Asu.goodEvidence_iterate (down : u.health = .fault) {n : Nat} (h : n ≤ 16) :
    Asu.goodEvidence^[n] { u with goodRun := 0 } =
      if n = 16 then { u with goodRun := 16, health := .good, faultCount := 0 } else { u with goodRun := n } := by
  induction n with
  | zero => rfl
  | succ n ih =>
    rw [Function.iterate_succ_apply', ih (by omega), if_neg (by omega), Asu.goodEvidence_of_fault (by exact down)]
    by_cases last : n + 1 = 16
    · rw [if_pos last, if_neg (by dsimp only; omega)]
    · rw [if_neg last, if_pos (by dsimp only; omega)]

end

/-- The health and the fault count after bad evidence, whatever the health (R87). -/
theorem Asu.HealthOk.badEvidence_count {u : Asu} (h : u.HealthOk) :
    u.badEvidence.faultCount = min (u.faultCount + 1) 3 ∧ (u.badEvidence.health = .fault ↔ 2 ≤ u.faultCount) := by
  by_cases down : u.health = .fault
  · rw [Asu.healthOk_fault down] at h
    rw [Asu.badEvidence_of_fault down]
    exact ⟨by dsimp only; omega, iff_of_true down (by omega)⟩
  · rw [Asu.badEvidence_of_not_fault down]
    refine ⟨rfl, ?_⟩
    dsimp only
    split_ifs with few
    · exact iff_of_false (by simp) (by omega)
    · exact iff_of_true rfl (by omega)

/-- Settles O42: three bad evidences count to 3, and sixteen good ones count out of FAULT. -/
theorem healthFollowsEvidence : Obligations.HealthFollowsEvidence := by
  unfold Obligations.HealthFollowsEvidence
  intro u h
  have h1 := h.badEvidence
  have h2 := h1.badEvidence
  have c1 := h.badEvidence_count.1
  have c2 := h1.badEvidence_count.1
  have c3 := h2.badEvidence_count
  refine ⟨c3.2.2 (by omega), ?_, fun up => ?_, fun down n hn => ?_, ?_⟩
  · exact c3.1.trans (by omega)
  · have few := h.faultCount_le up
    rw [h.badEvidence_count.2, Asu.goodEvidence_of_not_fault up, Asu.badEvidence_of_not_fault up]
    exact ⟨rfl, rfl, rfl, by omega⟩
  · intro v
    have run : v = _ := Asu.goodEvidence_iterate down hn
    by_cases last : n = 16
    · rw [run, if_pos last]
      exact ⟨iff_of_true rfl last, fun fewer => absurd last (by omega), fun _ => rfl⟩
    · rw [run, if_neg last, Asu.badEvidence_of_fault (by exact down)]
      exact ⟨iff_of_false (by simp [down]) last, fun _ => ⟨down, rfl, rfl, down⟩, fun e => absurd e last⟩
  · intro v hv
    obtain rfl | rfl : v = u.goodEvidence ∨ v = u.badEvidence := by simpa using hv
    · refine ⟨h.goodEvidence, ?_⟩
      rw [u.goodEvidence_eq]
      simp
    · refine ⟨h.badEvidence, ?_⟩
      rw [u.badEvidence_eq]
      simp

/-! ### The speed of a window (R79 to R82) -/

theorem clampInt_speed (v : Int) : clampInt (-65535) 65535 v = max (-65535) (min 65535 v) := clampInt_eq (by decide) v

theorem Asu.windowSpeed_of_count {u : Asu} {cpr : Nat} {now : Time}
    (h : 16 ≤ u.windowCount.natAbs ∧ 1 ≤ elapsed u.windowStart now) :
    u.windowSpeed cpr now = clampInt (-65535) 65535 (countSpeed u.windowCount cpr (elapsed u.windowStart now)) := by
  simp [Asu.windowSpeed, h]

theorem Asu.windowSpeed_of_edges {u : Asu} {cpr : Nat} {now : Time}
    (h : ¬ (16 ≤ u.windowCount.natAbs ∧ 1 ≤ elapsed u.windowStart now)) :
    u.windowSpeed cpr now = clampInt (-65535) 65535 ((edgeSpeed u.history cpr now).getD 0) := by
  simp only [Asu.windowSpeed, if_neg h]

/-- The COUNT method keeps the sign of the movement (R80). -/
theorem countSpeed_sign (delta : Int) (cpr w : Nat) :
    (0 ≤ delta → 0 ≤ countSpeed delta cpr w) ∧ (delta ≤ 0 → countSpeed delta cpr w ≤ 0) := by
  have positive : (0 : Int) ≤ (cpr : Int) * w := by positivity
  refine ⟨fun h => Int.tdiv_nonneg (by omega) positive, fun h => ?_⟩
  rw [countSpeed, ← neg_nonneg, ← Int.neg_tdiv]
  exact Int.tdiv_nonneg (by omega) positive

theorem edgeSpeed_of_five {e0 e1 e2 e3 e4 : EdgeEntry} {cpr : Nat} {now : Time}
    (span : elapsed e4.time e0.time ≤ 65535) (age : elapsed e0.time now ≤ 65535) :
    edgeSpeed [e0, e1, e2, e3, e4] cpr now = some (e0.dir.count *
      ((960000000 / (cpr * max (max (elapsed e4.time e0.time) (elapsed e0.time now)) 1) : Nat) : Int)) := by
  simp [edgeSpeed, span, age]

/-- With fewer than five entries, or entries too old, the EDGE method does not apply (R79, R81). -/
theorem edgeSpeed_eq_none {history : List EdgeEntry} {cpr : Nat} {now : Time}
    (h : history.length < 5 ∨ ∃ e0 e1 e2 e3 e4, history = [e0, e1, e2, e3, e4] ∧
      (65535 < elapsed e4.time e0.time ∨ 65535 < elapsed e0.time now)) : edgeSpeed history cpr now = none := by
  unfold edgeSpeed
  split
  next e0 _ _ _ e4 =>
    rw [if_neg]
    rintro ⟨span, age⟩
    obtain few | ⟨f0, f1, f2, f3, f4, same, old⟩ := h
    · simp at few
    · cases same
      omega
  next => rfl

/-- Settles O41: the three methods, and the clamp. -/
theorem windowSpeedByMethod : Obligations.WindowSpeedByMethod := by
  unfold Obligations.WindowSpeedByMethod
  intro u cpr now _ ok w clamped
  have counted : (16 ≤ |u.windowCount| ∧ 1 ≤ w) ↔ 16 ≤ u.windowCount.natAbs ∧ 1 ≤ elapsed u.windowStart now := by
    rw [Int.abs_eq_natAbs]
    exact and_congr_left fun _ => by omega
  have bounded : |u.windowSpeed cpr now| ≤ 65535 := abs_le.2 (clampInt_mem (by decide) _)
  refine ⟨fun many some => ?_, fun e0 e1 e2 e3 e4 few five span age => ?_, fun few old => ?_, bounded⟩
  · have speed := Asu.windowSpeed_of_count (cpr := cpr) (counted.1 ⟨many, some⟩)
    refine ⟨by rw [speed, clampInt_speed]; rfl, ?_⟩
    have sign := countSpeed_sign u.windowCount cpr (elapsed u.windowStart now)
    have kept := clampInt_abs_le (lo := -65535) (hi := 65535) (by decide) (by decide)
      (countSpeed u.windowCount cpr (elapsed u.windowStart now))
    rw [speed]
    obtain forward | back := le_total 0 u.windowCount
    · exact mul_nonneg (kept.2.1 (sign.1 forward)) forward
    · exact mul_nonneg_of_nonpos_of_nonpos (kept.2.2 (sign.2 back)) back
  · intro dt
    have speed := Asu.windowSpeed_of_edges (cpr := cpr) (fun h => few (counted.2 h))
    rw [five, edgeSpeed_of_five span age, Option.getD_some, clampInt_speed] at speed
    refine ⟨fun forward => ?_, fun back => ?_, fun e he => ?_⟩
    · rw [speed, forward, Direction.count, one_mul]
      rfl
    · rw [speed, back, Direction.count, neg_one_mul]
      rfl
    · obtain ⟨-, -, -, dirs, -⟩ := ok
      have first := dirs e0 (by rw [five]; exact List.mem_cons_self)
      exact Option.some.inj ((dirs e he).symm.trans first)
  · rw [Asu.windowSpeed_of_edges (fun h => few (counted.2 h)), edgeSpeed_eq_none old]
    rfl

/-! ### What keeps a unit in range (R74) -/

section
variable {u : Asu}

theorem abs_saturate_le (n : Int) : |saturate n| ≤ 32767 := abs_le.2 (clampInt_mem (by decide) n)

/-- Evidence changes the health alone: what else is in range stays so. -/
theorem Asu.Ok.withHealth (h : u.Ok) {v : Asu} (e : v = { u with health := v.health, faultCount := v.faultCount, goodRun := v.goodRun })
    (hv : v.HealthOk) : v.Ok := by
  obtain ⟨window, since, length, dirs, -, speed⟩ := h
  rw [e] at hv ⊢
  exact ⟨window, since, length, dirs, hv, speed⟩

theorem Asu.Ok.goodEvidence (h : u.Ok) : u.goodEvidence.Ok := by
  obtain ⟨-, -, -, -, health, -⟩ := id h
  exact h.withHealth u.goodEvidence_eq health.goodEvidence

theorem Asu.Ok.badEvidence (h : u.Ok) : u.badEvidence.Ok := by
  obtain ⟨-, -, -, -, health, -⟩ := id h
  exact h.withHealth u.badEvidence_eq health.badEvidence

/-- The count since index may be zeroed, and the flags may change (R83). -/
theorem Asu.Ok.zeroed (h : u.Ok) (dirChanged armed levelZ : Bool) :
    ({ u with sinceIndex := 0, dirChanged := dirChanged, armed := armed, levelZ := levelZ } : Asu).Ok := by
  obtain ⟨window, -, length, dirs, health, speed⟩ := h
  exact ⟨window, by simp, length, dirs, health, speed⟩

theorem Asu.Ok.countEdge (h : u.Ok) (p : Phase) (now : Time) : (u.countEdge p now).Ok := by
  obtain ⟨-, -, length, dirs, health, speed⟩ := h
  rw [u.countEdge_eq]
  refine ⟨abs_saturate_le _, abs_saturate_le _, ?_, ?_, health, speed⟩
  · dsimp only
    split_ifs
    · simp
    · exact List.length_take_le _ _
  · dsimp only
    split_ifs with turned
    · simp
    · intro e he
      obtain rfl | he := List.mem_cons.1 (List.mem_of_mem_take he)
      · rfl
      · have last := dirs e he
        by_contra other
        exact turned ⟨by simp [last], fun same => other (same ▸ last)⟩

theorem Asu.Ok.takePhaseError (h : u.Ok) : u.takePhaseError.Ok := by
  obtain ⟨window, since, -, -, health, speed⟩ := h
  exact ⟨window, since, by simp [Asu.takePhaseError], by simp [Asu.takePhaseError], health, speed⟩

theorem Asu.Ok.emptyHistory (h : u.Ok) : ({ u with history := [] } : Asu).Ok := by
  obtain ⟨window, since, -, -, health, speed⟩ := h
  exact ⟨window, since, by simp, by simp, health, speed⟩

theorem Asu.Ok.indexEdge (h : u.Ok) (enabled : Bool) (cpr tolerance : Nat) :
    ({ u.indexEdge enabled cpr tolerance with levelZ := true } : Asu).Ok := by
  cases enabled with
  | false => rw [Asu.indexEdge_of_disabled]; exact h.zeroed _ _ _
  | true =>
    cases armed : u.armed with
    | false => rw [Asu.indexEdge_of_unarmed armed]; exact h.zeroed _ _ _
    | true =>
      cases turned : u.dirChanged with
      | true => rw [Asu.indexEdge_of_turned armed turned]; exact h.zeroed _ _ _
      | false =>
        by_cases near : ((u.sinceIndex.natAbs : Int) - cpr).natAbs ≤ tolerance
        · rw [Asu.indexEdge_of_match armed turned near]; exact h.goodEvidence.zeroed _ _ _
        · rw [Asu.indexEdge_of_miss armed turned (by omega)]; exact h.badEvidence.zeroed _ _ _

theorem Asu.Ok.windowEvidence (h : u.Ok) (enabled : Bool) : (u.windowEvidence enabled).Ok := by
  unfold Asu.windowEvidence
  split_ifs
  · exact h.badEvidence
  · exact h
  · exact h.goodEvidence

theorem Asu.abs_windowSpeed_le (u : Asu) (cpr : Nat) (now : Time) : |u.windowSpeed cpr now| ≤ 65535 :=
  abs_le.2 (clampInt_mem (by decide) _)

theorem Asu.Ok.closeWindow (h : u.Ok) (cpr : Nat) (enabled : Bool) (now : Time) : (u.closeWindow cpr enabled now).Ok := by
  obtain ⟨-, since, length, dirs, health, -⟩ := h.windowEvidence enabled
  obtain ⟨-, -, -, -, -, speed⟩ := h
  refine ⟨by simp [Asu.closeWindow], since, length, dirs, health, ?_⟩
  unfold Asu.closeWindow
  dsimp only
  split_ifs
  · exact u.abs_windowSpeed_le cpr now
  · exact speed

theorem Asu.Ok.setArmed (h : u.Ok) (b : Bool) : ({ u with armed := b } : Asu).Ok := h

theorem Asu.Ok.setLevels (h : u.Ok) (a b z : Bool) : ({ u with levelA := a, levelB := b, levelZ := z } : Asu).Ok := h

theorem Asu.Ok.completeLatch (h : u.Ok) (usable : Bool) (env : Marked EnvelopeRec) (ratio : Nat) :
    (u.completeLatch usable env ratio).Ok := by
  obtain ⟨window, since, length, dirs, health, speed⟩ := h
  rw [u.completeLatch_eq]
  refine ⟨window, since, length, dirs, health, ?_⟩
  dsimp only
  split_ifs
  · exact speed
  · exact abs_le.2 (clampInt_mem (by decide) _)
  · simp

end

theorem Asu.reset_ok : Asu.reset.Ok := by simp [Asu.Ok, Asu.reset, Asu.HealthOk]

end Sys2Proof.Machine
end

section
/-! SUPPORT. The Period Timer: what its three commands do, and that each keeps it sound (R110 to R119). -/

namespace Sys2Proof.Machine

section
variable {s : State}

theorem State.boundary_of_idle (idle : s.ale.pass = none) (p : Ptm) (t : Time) :
    State.boundary { s with ptm := p } t = State.takeBoundary { s with ptm := p } t := by
  simp [State.boundary, idle]

theorem State.boundary_of_busy (busy : s.ale.pass ≠ none) (p : Ptm) (t : Time) :
    State.boundary { s with ptm := p } t = { s with ptm := { p with skipped := true, lastBoundary := t } } := by
  obtain ⟨x, hx⟩ := Option.ne_none_iff_exists'.1 busy
  simp [State.boundary, hx, State.skipBoundary]

theorem exec_internalTimerExpiry (run : s.inReset = false) (h : s.ptm.timer = some s.timeBase) :
    exec .internalTimerExpiry s = .next (State.boundary { s with
      ptm := { s.ptm with timer := some (later s.timeBase (s.act.active.val .internalPeriod)) } } s.timeBase) := by
  simp [exec, execInternalTimerExpiry, State.live_of_run run, State.when, h]

theorem exec_oneShotExpiry_internal (run : s.inReset = false) (h : s.ptm.oneShot = some s.timeBase)
    (mode : s.ptm.mode = .internal) :
    exec .oneShotExpiry s = .next { s with ptm := { s.ptm with oneShot := none, reacquire := 0 } } := by
  simp [exec, execOneShotExpiry, State.live_of_run run, State.when, h, mode]

/-- In SYNCED the expiry loses the line; the boundary that has not passed is scheduled (R114). -/
theorem exec_oneShotExpiry_before (run : s.inReset = false) (h : s.ptm.oneShot = some s.timeBase)
    (mode : s.ptm.mode = .synced) (ahead : elapsed s.ptm.lastBoundary s.timeBase < s.act.active.val .internalPeriod) :
    exec .oneShotExpiry s = .next { s with ptm := { s.ptm with
      oneShot := none, mode := .internal, reacquire := 0
      timer := some (later s.ptm.lastBoundary (s.act.active.val .internalPeriod)) } } := by
  simp [exec, execOneShotExpiry, State.live_of_run run, State.when, h, mode, State.loseLine, ahead]

/-- In SYNCED the expiry loses the line; the boundary that has passed is due at once (R114). -/
theorem exec_oneShotExpiry_after (run : s.inReset = false) (h : s.ptm.oneShot = some s.timeBase)
    (mode : s.ptm.mode = .synced) (passed : s.act.active.val .internalPeriod ≤ elapsed s.ptm.lastBoundary s.timeBase) :
    exec .oneShotExpiry s = .next (State.boundary { s with ptm := { s.ptm with
      oneShot := none, mode := .internal, reacquire := 0
      timer := some (later s.timeBase (s.act.active.val .internalPeriod)) } } s.timeBase) := by
  simp [exec, execOneShotExpiry, State.live_of_run run, State.when, h, mode, State.loseLine, Nat.not_lt.2 passed]

/-- Settles O43. -/
theorem timerExpiryIsABoundary : Obligations.TimerExpiryIsABoundary := by
  intro s run due
  refine ⟨fun busy => ?_, fun idle => ⟨?_, ?_⟩⟩
  · rw [exec_internalTimerExpiry run due, State.boundary_of_busy busy]
    rfl
  · rw [exec_internalTimerExpiry run due, State.boundary_of_idle idle]
    rfl
  · intro t ht
    rw [exec_internalTimerExpiry run due, State.boundary_of_idle idle] at ht
    injection ht with ht
    subst ht
    obtain ⟨x, hx, -⟩ := State.takeBoundary_pass
      { s with ptm := { s.ptm with timer := some (later s.timeBase (s.act.active.val .internalPeriod)) } } s.timeBase
    rw [State.takeBoundary_ptm]
    exact ⟨rfl, rfl, rfl, rfl, by simp [hx]⟩

/-- Settles O44. -/
theorem oneShotExpiryLosesLine : Obligations.OneShotExpiryLosesLine := by
  intro s run due
  refine ⟨exec_oneShotExpiry_internal run due, exec_oneShotExpiry_before run due, fun mode passed => ?_⟩
  have e := exec_oneShotExpiry_after run due mode passed
  refine ⟨fun idle => ?_, fun busy => ?_⟩
  · rw [e, State.boundary_of_idle idle]
    rfl
  · rw [e, State.boundary_of_busy busy]
    rfl

/-! ### Qualified edges -/

theorem EdgeSelect.picks_iff {e : EdgeSelect} {up : Bool} :
    e.picks up = true ↔ e = .both ∨ e = .rising ∧ up = true ∨ e = .falling ∧ up = false := by
  cases e <;> simp [EdgeSelect.picks]

theorem Ptm.qualifies_iff {p : Ptm} {up : Bool} {now : Time} :
    p.qualifies up now = true ↔ p.select.picks up = true ∧ ∀ t, p.lastQualified = some t → 20 ≤ elapsed t now := by
  cases h : p.lastQualified <;> simp [Ptm.qualifies, h, qualifyMicros]

/-- The state with the line SYNC_IN at a level, the pin with it (log 7). -/
def State.withSyncLevel (s : State) (up : Bool) : State :=
  { s with ptm := { s.ptm with level := up }, pins := { s.pins with syncIn := up } }

theorem exec_syncInEdge (run : s.inReset = false) (up : Bool) : exec (.syncInEdge up) s =
    .next (if s.ptm.qualifies up s.timeBase then (s.withSyncLevel up).qualifiedEdge else s.withSyncLevel up) := by
  simp only [exec, execSyncInEdge, State.live_of_run run, State.when]
  rfl

theorem State.qualifiedEdge_of_between (h : s.ptm.dividerCount + 1 < s.ptm.divider) :
    s.qualifiedEdge = { s with ptm := s.ptm.countEdge s.timeBase (s.act.active.val .syncTimeout) } := by
  simp [State.qualifiedEdge, Ptm.completes, Nat.not_le.2 h]

theorem State.qualifiedEdge_of_synced (h : s.ptm.divider ≤ s.ptm.dividerCount + 1) (mode : s.ptm.mode = .synced) :
    s.qualifiedEdge = State.boundary
      { s with ptm := s.ptm.countEdge s.timeBase (s.act.active.val .syncTimeout) } s.timeBase := by
  simp [State.qualifiedEdge, Ptm.completes, Ptm.countEdge, h, mode]

theorem State.qualifiedEdge_of_internal (h : s.ptm.divider ≤ s.ptm.dividerCount + 1) (mode : s.ptm.mode = .internal) :
    let p := s.ptm.countEdge s.timeBase (s.act.active.val .syncTimeout)
    s.qualifiedEdge = if p.reacquire = 16 then State.boundary { s with ptm := p.reacquired } s.timeBase
      else { s with ptm := p } := by
  simp [State.qualifiedEdge, Ptm.completes, Ptm.countEdge, h, mode]

end

/-- Settles O45. -/
theorem syncEdgeQualifiedOrDiscarded : Obligations.SyncEdgeQualifiedOrDiscarded := by
  intro s up run p s1 selected spaced count q at_gate
  have hs1 : s.withSyncLevel up = s1 := rfl
  have qualified : (p.qualifies up s.timeBase = true) ↔ selected ∧ spaced := by
    rw [Ptm.qualifies_iff, EdgeSelect.picks_iff]
    exact Iff.rfl
  have counted (n : Nat) (hn : (if p.divider ≤ p.dividerCount + 1 then 0 else p.dividerCount + 1) = n) :
      s1.ptm.countEdge s1.timeBase (s1.act.active.val .syncTimeout) = { q with dividerCount := n } := by
    subst hn
    simp [Ptm.countEdge, q, count, s1, p, min_comm, Option.isSome_iff_ne_none, later]
  have gate (x : Ptm) : State.boundary { s1 with ptm := x } s.timeBase = at_gate x := by
    by_cases idle : s.ale.pass = none
    · rw [State.boundary_of_idle (s := s1) idle]
      exact (if_pos idle).symm
    · rw [State.boundary_of_busy (s := s1) idle]
      exact (if_neg idle).symm
  have taken (h1 : selected) (h2 : spaced) : exec (.syncInEdge up) s = .next s1.qualifiedEdge := by
    rw [exec_syncInEdge run, if_pos (qualified.2 ⟨h1, h2⟩), hs1]
  refine ⟨fun h => ?_, fun h1 h2 between => ?_, fun h1 h2 done mode => ?_, fun h1 h2 done mode full => ?_,
    fun h1 h2 done mode part => ?_⟩
  · rw [exec_syncInEdge run, if_neg (qualified.not.2 h), hs1]
  · rw [taken h1 h2, State.qualifiedEdge_of_between (s := s1) between, counted _ (if_neg (by omega))]
  · rw [taken h1 h2, State.qualifiedEdge_of_synced (s := s1) done mode, counted 0 (if_pos done), ← gate]
  · rw [taken h1 h2, State.qualifiedEdge_of_internal (s := s1) done mode, counted 0 (if_pos done), if_pos full, ← gate]
    rfl
  · rw [taken h1 h2, State.qualifiedEdge_of_internal (s := s1) done mode, counted 0 (if_pos done), if_neg part]

/-! ### The timer stays sound -/

section
variable {p : Ptm} (h : p.Ok)
include h

/-- In INTERNAL the timer's next boundary can be scheduled anew (R115). -/
theorem Ptm.Ok.reschedule (running : p.timer ≠ none) (t : Time) : ({ p with timer := some t } : Ptm).Ok := by
  obtain ⟨h1, h2, h3, h4, h5, h6⟩ := h
  exact ⟨h1, h2, h3, h4, by simpa [running] using h5, h6⟩

theorem Ptm.Ok.stopOneShot (mode : p.mode = .internal) : ({ p with oneShot := none, reacquire := 0 } : Ptm).Ok := by
  obtain ⟨h1, h2, h3, -, h5, -⟩ := h
  exact ⟨h1, h2, h3, Nat.zero_le _, h5, by simp [mode]⟩

theorem Ptm.Ok.loseLine (t : Time) :
    ({ p with oneShot := none, mode := .internal, reacquire := 0, timer := some t } : Ptm).Ok := by
  obtain ⟨h1, h2, h3, -, -, -⟩ := h
  exact ⟨h1, h2, h3, Nat.zero_le _, by simp, by simp⟩

theorem Ptm.Ok.setLevel (up : Bool) : ({ p with level := up } : Ptm).Ok := h

theorem Ptm.Ok.skip (t : Time) : ({ p with skipped := true, lastBoundary := t } : Ptm).Ok := h

theorem Ptm.Ok.countEdge (now : Time) (timeout : Nat) : (p.countEdge now timeout).Ok := by
  obtain ⟨h1, h2, h3, h4, h5, h6⟩ := h
  refine ⟨h1, h2, ?_, ?_, h5, fun mode => ⟨by simp [Ptm.countEdge], ?_⟩⟩
  · simp only [Ptm.countEdge]
    split_ifs <;> omega
  · simp only [Ptm.countEdge]
    split_ifs <;> omega
  · have synced : p.mode = .synced := mode
    simp [Ptm.countEdge, synced, (h6 synced).2]

/-- The reacquisition leaves the one-shot running (R117). -/
theorem Ptm.Ok.reacquired (running : p.oneShot ≠ none) : p.reacquired.Ok := by
  obtain ⟨h1, h2, h3, -, -, -⟩ := h
  exact ⟨h1, h2, h3, Nat.zero_le _, by simp [Ptm.reacquired], fun _ => ⟨running, rfl⟩⟩

end

theorem Ptm.reset_ok : Ptm.reset.Ok := by simp [Ptm.Ok, Ptm.reset]

/-- A taken boundary loads a divider in its range, and a count that stays below it (R120, R121). -/
theorem Ptm.Ok.takeBoundary {s : State} (h : s.ptm.Ok) (config : s.act.InRange) (t : Time) : (s.takeBoundary t).ptm.Ok := by
  obtain ⟨h1, h2, h3, h4, h5, h6⟩ := h
  rw [State.takeBoundary_ptm, State.takeBoundary_act]
  obtain ⟨low, high⟩ := (config.movePending Param.syncDivider).1
  refine ⟨low, high, ?_, h4, h5, h6⟩
  dsimp only
  split_ifs with same
  · rw [same.2]; exact h3
  · exact low

end Sys2Proof.Machine
end

section
/-! SUPPORT. A taken boundary as a whole: the windows it closes, the lookup it makes, and that it keeps every
block it moves sound (R1). -/

namespace Sys2Proof.Machine

/-- The unit after its window closed, field by field (R78, R86, R88). -/
theorem Asu.closeWindow_eq (u : Asu) (cpr : Nat) (enabled : Bool) (now : Time) :
    u.closeWindow cpr enabled now = { u with
      health := (u.windowEvidence enabled).health
      faultCount := (u.windowEvidence enabled).faultCount
      goodRun := (u.windowEvidence enabled).goodRun
      windowCount := 0, windowStart := now, phaseError := false
      latched := if u.usable enabled
        then { speed := u.windowSpeed cpr now, state := .sensor, health := (u.windowEvidence enabled).health }
        else { u.latched with health := (u.windowEvidence enabled).health } } := by
  simp only [Asu.closeWindow]
  rw [u.windowEvidence_eq]

theorem Asu.usable_eq_false {u : Asu} {enabled : Bool} :
    u.usable enabled = false ↔ u.phaseError = true ∨ (u.windowEvidence enabled).health = .fault := by
  simp [Asu.usable, or_iff_not_imp_left]

/-- The map a taken boundary leaves: after the pending operation, looked up by the key of what the pass took
(R38, R45). -/
theorem State.takeBoundary_lookup (s : State) (t : Time) {x : Pass} (hx : (s.takeBoundary t).ale.pass = some x) :
    (s.takeBoundary t).map =
      (s.map.applyPending.lookup (passKey x.copy.image x.copy.latched) s.movePending.act.active.defaultPolicy).1 := by
  obtain rfl := Option.some.inj hx
  simp [State.takeBoundary, State.startPass, State.movePending, State.setActive, State.closeWindows, State.applyMap,
    State.advanceImage, State.completeLatches, State.consumeLifetime, State.loadSync, State.imageCopy, State.liuOf]

theorem SplitMap.applyPending_stage (m : SplitMap) :
    m.applyPending.stage = m.stage ∧ m.applyPending.staged = m.staged ∧ m.applyPending.slot = .empty := by
  cases slot : m.slot with
  | empty => rw [SplitMap.applyPending_of_empty slot]; exact ⟨rfl, rfl, slot⟩
  | write c n choice => rw [SplitMap.applyPending_of_write slot]; exact ⟨rfl, rfl, rfl⟩
  | flush => rw [SplitMap.applyPending_of_flush slot]; exact ⟨rfl, rfl, rfl⟩

/-- What a lookup hands to the pass and leaves of the map (R10, R35, R37). -/
theorem SplitMap.lookup_spec (m : SplitMap) (k : MapKey) (d : Policy) :
    let x := m.lookup k d
    (∀ w, (m.set k.set).select k = some w →
      x.2.1 = ((m.set k.set).entry w).content.policy ∧ x.2.2 = { hit := true, set := k.set, way := w } ∧
      x.1.set k.set = { m.set k.set with lru := w :: (m.set k.set).lru.filter (fun v => decide (v ≠ w)) }) ∧
    ((m.set k.set).select k = none →
      x.2.1 = d ∧ x.2.2 = { hit := false, set := k.set, way := 0 } ∧ x.1.set k.set = m.set k.set) ∧
    (∀ n, n ≠ k.set → x.1.set n = m.set n) ∧
    x.1.stage = m.stage ∧ x.1.staged = m.staged ∧ x.1.slot = m.slot := by
  intro x
  cases found : (m.set k.set).select k with
  | none =>
    have hx : x = _ := SplitMap.lookup_of_miss found d
    rw [hx]
    exact ⟨(fun _ h => nomatch h), fun _ => ⟨rfl, rfl, rfl⟩, fun _ _ => rfl, rfl, rfl, rfl⟩
  | some w =>
    have hx : x = _ := SplitMap.lookup_of_hit found d
    rw [hx]
    refine ⟨fun v h => ?_, (fun h => nomatch h), fun n other => m.set_putSet_ne _ other, rfl, rfl, rfl⟩
    obtain rfl := Option.some.inj h
    exact ⟨rfl, rfl, m.set_putSet_same _ _⟩

section
variable (s : State) (time : Time) (a : Axle)

/-- An axle's unit after a taken boundary, but for its latched result (R78, R86, R91). -/
theorem State.takeBoundary_unit :
    let t := s.takeBoundary time
    let u := s.asuOf a
    let v := u.windowEvidence (s.act.active.indexUse a)
    t.asuOf a = { u with
      windowCount := 0, windowStart := time, phaseError := false
      health := v.health, faultCount := v.faultCount, goodRun := v.goodRun
      armed := u.armed && decide (t.act.active.cpr a = s.act.active.cpr a) &&
          (!s.act.active.indexUse a || t.act.active.indexUse a)
      latched := (t.asuOf a).latched } := by
  intro t u v
  simp only [t, State.takeBoundary_asuOf, Asu.completeLatch_eq, Asu.closeWindow_eq]
  rfl

/-- The latched result after a taken boundary (R88, R89). -/
theorem State.takeBoundary_latched :
    let t := s.takeBoundary time
    let u := s.asuOf a
    let c := s.act.active
    let e := ({ s with image := s.image.advance, act := t.act } : State).imageCopy.envelope.get a
    let usable := u.usable (c.indexUse a)
    (t.asuOf a).latched = {
      speed := if usable then u.windowSpeed (c.cpr a) time
        else if e.fresh then substituteSpeed e.fields.motorSpeed (c.ratio a) else 0
      state := if usable then .sensor else if e.fresh then .substitute else .invalid
      health := (u.windowEvidence (c.indexUse a)).health } := by
  intro t u c e usable
  simp only [t, State.takeBoundary_asuOf, Asu.completeLatch_eq, Asu.closeWindow_eq]
  cases h : u.usable (c.indexUse a) <;> simp [usable, h, u, c, e, t]

end

/-- Settles O46. -/
theorem takenBoundaryHandsOver : Obligations.TakenBoundaryHandsOver := by
  rintro s t time rfl
  have act : (s.takeBoundary time).act = s.movePending.act := s.takeBoundary_act time
  have unit := s.takeBoundary_unit time
  have latched := s.takeBoundary_latched time
  obtain ⟨x, hx, toff, clocks, latency, config, allocState, limits, carried, prev, image, latch, policy⟩ :=
    s.takeBoundary_pass time
  have map := s.takeBoundary_lookup time hx
  rw [State.takeBoundary_ptm, State.takeBoundary_image, State.takeBoundary_limits, hx]
  refine ⟨fun q => by rw [act]; exact s.movePending_val q, by rw [act]; rfl, State.takeBoundary_carried s time,
    State.takeBoundary_published s time, rfl, by simp, by simp, by simp, rfl, rfl, fun a => PerAxle.get_of _ a, rfl, rfl, rfl,
    rfl, rfl, rfl, rfl, rfl, rfl, rfl, rfl, rfl, rfl, by simp, by simp, by simp, by simp, by simp, fun a => ?_,
    x, rfl, toff, clocks, latency, by rw [act, config], allocState, limits, latch, carried, prev, ?_, ?_, ?_, ?_, ?_⟩
  · intro u v usable
    have hv : u.windowEvidence (s.act.active.indexUse a) = v := rfl
    rw [unit a, latched a, hv]
    refine ⟨rfl, rfl, rfl, rfl, rfl, rfl, rfl, rfl, rfl, rfl, rfl, rfl, rfl, ?_, rfl, fun h => ?_⟩
    · simp [u, and_assoc, imp_iff_not_or]
    · have h' : u.usable (s.act.active.indexUse a) = true := h
      exact ⟨if_pos h', if_pos h'⟩
  · rw [image, act]; rfl
  · rw [image, act]; rfl
  · intro a
    rw [image, act]
    exact PerAxle.get_of _ a
  · intro k m
    obtain ⟨hit, miss, others, stage, staged, slot⟩ := m.lookup_spec k s.movePending.act.active.defaultPolicy
    obtain ⟨hpolicy, hresult⟩ := Prod.mk.inj policy
    rw [map, hpolicy, hresult, act]
    obtain ⟨e1, e2, e3⟩ := s.map.applyPending_stage
    exact ⟨hit, miss, others, stage.trans e1, staged.trans e2, slot.trans e3⟩
  · intro a u e bad
    have h : u.usable (s.act.active.indexUse a) = false := Asu.usable_eq_false.2 bad
    have he : ({ s with image := s.image.advance, act := (s.takeBoundary time).act } : State).imageCopy.envelope.get a = e := by
      rw [act]
      exact (congrArg (fun i : ImageCopy => i.envelope.get a) image).symm
    rw [latched a, he]
    simp only [u] at h
    refine ⟨fun fresh => ?_, fun stale => ?_⟩
    · simp [h, fresh, substituteSpeed, clampInt_speed]
    · simp [h, stale]

/-! ### What a taken boundary keeps sound -/

section
variable {s : State} (time : Time)

theorem Asu.Ok.takeBoundary {a : Axle} (h : (s.asuOf a).Ok) : ((s.takeBoundary time).asuOf a).Ok := by
  rw [State.takeBoundary_asuOf]
  exact ((h.closeWindow _ _ _).setArmed _).completeLatch _ _ _

theorem SplitMap.Ok.takeBoundary (h : s.map.Ok) : (s.takeBoundary time).map.Ok := by
  obtain ⟨k, d, e⟩ := s.takeBoundary_map time
  rw [e]
  exact h.applyPending.lookup_map k d

theorem Act.InRange.takeBoundary (h : s.act.InRange) : (s.takeBoundary time).act.InRange := by
  rw [State.takeBoundary_act]
  exact h.movePending

/-- The pass a boundary starts takes what is in range, and works from what stands (R1, R2). -/
theorem Pass.ok_of_takeBoundary (map : s.map.Ok) (config : s.act.InRange) (image : s.image.Ok)
    (carried : s.ale.carried.Ok) (published : s.ale.published.Ok) {x : Pass}
    (hx : (s.takeBoundary time).ale.pass = some x) :
    x.Ok ∧ x.toffTaken = false ∧ x.copy.allocState = s.act.state ∧ x.copy.carried = s.ale.carried ∧
      x.copy.prev = s.ale.published.torque := by
  obtain ⟨y, hy, toff, -, latency, eConfig, eState, -, eCarried, ePrev, eImage, -, ePolicy⟩ := s.takeBoundary_pass time
  obtain rfl : y = x := Option.some.inj (hy.symm.trans hx)
  have active := config.movePending
  obtain ⟨demand, -, -, -, envelope, -⟩ := image
  refine ⟨⟨?_, ?_, ?_, ?_, ?_, ?_, latency⟩, toff, eState, eCarried, ePrev⟩
  · rw [eConfig]
    exact fun q => (active q).1
  · have := (map.applyPending.lookup (passKey y.copy.image y.copy.latched)
      (ConfigSet.defaultPolicy_inRange fun q => (active q).1)).2
    rwa [← ePolicy] at this
  · rw [eImage]
    exact abs_le.2 demand
  · rw [eImage]
    exact ⟨⟨envelope.1.1, envelope.1.2.1⟩, envelope.2.1, envelope.2.2.1⟩
  · rwa [eCarried]
  · rw [ePrev]
    exact published.1

end

end Sys2Proof.Machine
end

section
/-! SUPPORT. Stages 2 to 8 of a pass: the key, the conditioned demand, the applied share, the cut, the transfer,
the bounds and the spill (R8 to R20). -/

namespace Sys2Proof.Machine

/-- Moving toward a target, case by case. -/
theorem moveToward_eq (v target step : Int) (h : 0 ≤ step) :
    (|target - v| ≤ step → moveToward v target step = target) ∧
    (v + step < target → moveToward v target step = v + step) ∧
    (target < v - step → moveToward v target step = v - step) := by
  unfold moveToward
  refine ⟨fun near => if_pos near, fun above => ?_, fun below => ?_⟩
  · rw [if_neg (by rw [abs_le]; omega), if_pos (by omega)]
  · rw [if_neg (by rw [abs_le]; omega), if_neg (by omega)]

theorem refUsable_iff {r : Marked ReferenceRec} : refUsable r = true ↔ r.fresh = true ∧ r.fields.valid = true := by
  simp [refUsable]

theorem loadBand_spec (mass : Nat) :
    150 * (loadBand mass).val ≤ mass ∧ (mass < 150 * ((loadBand mass).val + 1) ∨ (loadBand mass).val = 7) := by
  simp only [loadBand]
  omega

theorem speedBandOf_spec (magnitude : Nat) :
    800 * (speedBandOf magnitude).val ≤ magnitude ∧
      (magnitude < 800 * ((speedBandOf magnitude).val + 1) ∨ (speedBandOf magnitude).val = 7) := by
  simp only [speedBandOf]
  omega

theorem gradeBand_spec {grade : Int} (low : -400 ≤ grade) (high : grade ≤ 400) :
    100 * ((gradeBand grade).val : Int) ≤ grade + 400 ∧
      (grade + 400 < 100 * (((gradeBand grade).val : Int) + 1) ∨ (gradeBand grade).val = 7) := by
  simp only [gradeBand, Int.tdiv_eq_ediv_of_nonneg (show 0 ≤ grade + 400 by omega), clampInt_eq (show (0 : Int) ≤ 7 by decide)]
  omega

theorem setOf_val (mode : Fin 8) (trailer : Bool) :
    (setOf mode trailer).val = 2 * mode.val + if trailer = true then 1 else 0 := by
  cases trailer <;> simp [setOf, Nat.mul_comm]

section
variable (p : PassCopy)

theorem PassCopy.share_cast : (p.share : Int) = moveToward p.carried.share p.policy.share (p.config.val .shareSlew) := by
  have spec := moveToward_spec (v := p.carried.share) (target := p.policy.share)
    (Int.natCast_nonneg (p.config.val .shareSlew))
  refine Int.toNat_of_nonneg ?_
  omega

theorem PassCopy.share_le (policy : p.policy.share ≤ 1000) (carried : p.carried.share ≤ 1000) : p.share ≤ 1000 := by
  have spec := moveToward_spec (v := p.carried.share) (target := p.policy.share)
    (Int.natCast_nonneg (p.config.val .shareSlew))
  rw [← p.share_cast] at spec
  omega

theorem PassCopy.demand_of_not_run (h : p.allocState ≠ .run) : p.demand = 0 := by
  cases e : p.allocState with
  | run => exact absurd e h
  | standby => simp [PassCopy.demand, e]
  | rampdown => simp [PassCopy.demand, e]
  | forcedOff => simp [PassCopy.demand, e]

theorem PassCopy.demand_of_fresh (run : p.allocState = .run) (fresh : p.image.demand.fresh = true) :
    p.demand = p.image.demand.fields.demand := by
  simp [PassCopy.demand, run, fresh]

theorem PassCopy.demand_of_stale (run : p.allocState = .run) (stale : p.image.demand.fresh = false) :
    p.demand = moveToward p.carried.demand 0 (p.config.val .demandDecay) := by
  simp [PassCopy.demand, run, stale]

end

/-- Settles O48. -/
theorem demandAndShareConditioned : Obligations.DemandAndShareConditioned := by
  intro p d decay
  have decays := moveToward_eq d 0 decay (Int.natCast_nonneg _)
  refine ⟨?_, p.demand_of_not_run, p.demand_of_fresh, fun run stale => ?_, ?_⟩
  · intro k fields r axle speed
    have speedBand : k.speed = speedBandOf speed := by
      simp only [k, passKey, Machine.speedBand, refUsable_iff]
      rfl
    rw [speedBand]
    exact ⟨setOf_val _ _, loadBand_spec _, gradeBand_spec, speedBandOf_spec _⟩
  · rw [p.demand_of_stale run stale]
    refine ⟨fun near => decays.1 (by simpa using near), fun above => decays.2.2 (by omega),
      fun below => decays.2.1 (by omega)⟩
  · intro slew old target
    have moves := moveToward_eq old target slew (Int.natCast_nonneg _)
    rw [p.share_cast]
    exact ⟨moves.1, moves.2.1, moves.2.2, p.share_le⟩

/-! ### Stages 6 and 7 -/

section
variable (p : PassCopy) (a : Axle)

theorem PassCopy.noSlip_iff : p.noSlip a = true ↔
    ¬ (p.image.reference.fresh = true ∧ p.image.reference.fields.valid = true) ∨ (p.latched.get a).state = .invalid := by
  simp [PassCopy.noSlip, refUsable, imp_iff_not_or]

theorem PassCopy.slip_of_noSlip (h : p.noSlip a = true) : p.slip a = 0 := if_pos h

theorem PassCopy.slip_of_marked (h : p.noSlip a = false) : p.slip a = max (-1000) (min 1000
    ((((p.latched.get a).speed - p.omegaRef) * p.sigma * 1000).tdiv (max |p.omegaRef| (p.config.val .speedFloor)))) := by
  rw [PassCopy.slip, if_neg (by simp [h]), clampInt_eq (by decide)]

theorem PassCopy.abs_slip_le : |p.slip a| ≤ 1000 := by
  cases h : p.noSlip a
  · rw [p.slip_of_marked a h, abs_le]
    omega
  · rw [p.slip_of_noSlip a h]
    decide

theorem PassCopy.slipping_iff : p.slipping a = true ↔ p.noSlip a = false ∧
    (0 < p.sigma * p.base.get a ∧ (p.policy.slipTarget : Int) < p.slip a ∨
      p.sigma * p.base.get a < 0 ∧ p.slip a < -(p.policy.slipTarget : Int)) := by
  simp [PassCopy.slipping]

/-- A slipping axle has a torque, and a slip ratio beyond the target (R15). -/
theorem PassCopy.slipping_spec (h : p.slipping a = true) :
    p.base.get a ≠ 0 ∧ (p.policy.slipTarget : Int) < |p.slip a| := by
  obtain ⟨-, beyond⟩ := (p.slipping_iff a).1 h
  rw [lt_abs]
  constructor
  · intro zero
    simp [zero] at beyond
  · omega

theorem PassCopy.cut_of_not_slipping (h : p.slipping a = false) : p.cut a = 0 := by simp [PassCopy.cut, h]

theorem PassCopy.cut_of_slipping (h : p.slipping a = true) :
    p.cut a = min |p.base.get a| (p.policy.gain * (|p.slip a| - p.policy.slipTarget)) := if_pos h

/-- A cut takes no more than the torque (R16). -/
theorem PassCopy.cut_mem : 0 ≤ p.cut a ∧ p.cut a ≤ |p.base.get a| := by
  cases h : p.slipping a
  · rw [p.cut_of_not_slipping a h]
    exact ⟨le_rfl, abs_nonneg _⟩
  · rw [p.cut_of_slipping a h]
    have beyond := (p.slipping_spec a h).2
    exact ⟨le_min (abs_nonneg _) (mul_nonneg (Int.natCast_nonneg _) (by omega)), min_le_left _ _⟩

theorem carriesNoTransfer_iff {table : List Limit} : carriesNoTransfer table a = true ↔
    ∃ q ∈ table, q.kind = .noTransfer ∧ q.axle.covers a = true := by
  simp [carriesNoTransfer]

theorem LimitAxle.covers_iff {x : LimitAxle} :
    x.covers a = true ↔ x = .both ∨ x = .front ∧ a = .front ∨ x = .rear ∧ a = .rear := by
  cases x <;> cases a <;> simp [LimitAxle.covers]

theorem PassCopy.received_of_transfer (other : p.slipping a.other = true) (self : p.slipping a = false)
    (permitted : carriesNoTransfer p.limits a = false) :
    p.received a = (p.base.get a.other).sign * min (p.cut a.other) p.policy.transferCap := by
  simp [PassCopy.received, other, self, PassCopy.mayReceive, permitted]

theorem PassCopy.received_of_closed (h : carriesNoTransfer p.limits a = true ∨ p.slipping a = true) : p.received a = 0 := by
  rcases h with h | h <;> simp [PassCopy.received, PassCopy.mayReceive, h]

theorem PassCopy.received_of_not_slipping (h : p.slipping a.other = false) : p.received a = 0 := by
  simp [PassCopy.received, h]

end

/-- Signed by what is at most its magnitude: a value of the same sign (R16). -/
theorem sign_mul_of_le {t c : Int} (low : 0 ≤ c) (high : c ≤ |t|) :
    (0 ≤ t → t.sign * c = c) ∧ (t ≤ 0 → t.sign * c = -c) := by
  rcases lt_trichotomy t 0 with neg | rfl | pos
  · simp [Int.sign_eq_neg_one_of_neg neg]
    omega
  · have : c = 0 := by simp at high; omega
    simp [this]
  · simp [Int.sign_eq_one_of_pos pos]
    omega

section
variable (p : PassCopy) (share : p.share ≤ 1000)
include share

theorem PassCopy.base_get_nonneg (h : 0 ≤ p.demand) (a : Axle) : 0 ≤ p.base.get a := by
  obtain ⟨front, rear⟩ := p.base_nonneg share h
  cases a
  · exact front
  · exact rear

theorem PassCopy.base_get_nonpos (h : p.demand ≤ 0) (a : Axle) : p.base.get a ≤ 0 := by
  obtain ⟨front, rear⟩ := p.base_nonpos share h
  cases a
  · exact front
  · exact rear

/-- What an axle receives, with the sign of the demand, is at most the other axle's cut and the cap (R17). -/
theorem PassCopy.received_mem (a : Axle) :
    (0 ≤ p.demand → 0 ≤ p.received a ∧ p.received a ≤ min (p.cut a.other) p.policy.transferCap) ∧
    (p.demand ≤ 0 → p.received a ≤ 0 ∧ -p.received a ≤ min (p.cut a.other) p.policy.transferCap) := by
  obtain ⟨low, high⟩ := p.cut_mem a.other
  have cap : (0 : Int) ≤ p.policy.transferCap := Int.natCast_nonneg _
  by_cases h : p.slipping a.other = true ∧ p.slipping a = false ∧ carriesNoTransfer p.limits a = false
  · rw [p.received_of_transfer a h.1 h.2.1 h.2.2]
    obtain ⟨pos, neg⟩ := sign_mul_of_le (t := p.base.get a.other) (le_min low cap) ((min_le_left _ _).trans high)
    refine ⟨fun hd => ?_, fun hd => ?_⟩
    · rw [pos (p.base_get_nonneg share hd _)]
      omega
    · rw [neg (p.base_get_nonpos share hd _)]
      omega
  · have nothing : p.received a = 0 := by
      by_cases other : p.slipping a.other = true
      · refine p.received_of_closed a ?_
        by_contra closed
        simp only [not_or, Bool.not_eq_true] at closed
        exact h ⟨other, closed.2, closed.1⟩
      · exact p.received_of_not_slipping a (by simpa using other)
    rw [nothing]
    omega

/-- T_a1 by the sign of the demand: what the axle keeps and what it receives (R16, R17). -/
theorem PassCopy.afterSlip_eq (a : Axle) :
    (0 ≤ p.demand → p.afterSlip a = p.base.get a - p.cut a + p.received a) ∧
    (p.demand ≤ 0 → p.afterSlip a = p.base.get a + p.cut a + p.received a) := by
  obtain ⟨low, high⟩ := p.cut_mem a
  obtain ⟨pos, neg⟩ := sign_mul_of_le low high
  unfold PassCopy.afterSlip
  refine ⟨fun hd => by rw [pos (p.base_get_nonneg share hd a)], fun hd => ?_⟩
  rw [neg (p.base_get_nonpos share hd a)]
  omega

/-- Cut and transfer keep the sign of the demand and add no torque (R16, R17). -/
theorem PassCopy.afterSlip_spec :
    (0 ≤ p.demand → (∀ a, 0 ≤ p.afterSlip a) ∧ p.afterSlip .front + p.afterSlip .rear ≤ p.demand) ∧
    (p.demand ≤ 0 → (∀ a, p.afterSlip a ≤ 0) ∧ p.demand ≤ p.afterSlip .front + p.afterSlip .rear) := by
  have sum := p.base_front_add_rear
  obtain ⟨pf, nf⟩ := p.received_mem share .front
  obtain ⟨pr, nr⟩ := p.received_mem share .rear
  have cut_le := fun a => p.cut_mem a
  have spec := p.afterSlip_eq share
  simp only [Axle.other] at pf nf pr nr
  refine ⟨fun hd => ⟨fun a => ?_, ?_⟩, fun hd => ⟨fun a => ?_, ?_⟩⟩
  · have nonneg := p.base_get_nonneg share hd a
    have received := ((p.received_mem share a).1 hd).1
    have cut := (cut_le a).2
    rw [abs_of_nonneg nonneg] at cut
    rw [(spec a).1 hd]
    omega
  · rw [(spec .front).1 hd, (spec .rear).1 hd]
    simp only [PerAxle.get_front, PerAxle.get_rear]
    have := pf hd
    have := pr hd
    omega
  · have nonpos := p.base_get_nonpos share hd a
    have received := ((p.received_mem share a).2 hd).1
    have cut := (cut_le a).2
    rw [abs_of_nonpos nonpos] at cut
    rw [(spec a).2 hd]
    omega
  · rw [(spec .front).2 hd, (spec .rear).2 hd]
    simp only [PerAxle.get_front, PerAxle.get_rear]
    have := nf hd
    have := nr hd
    omega

end

/-! ### Stage 8 -/

section
variable (p : PassCopy) (a : Axle)

theorem PassCopy.clip_eq (t : Int) : p.clip a t = max (-(p.regenBound a : Int)) (min (p.driveBound a : Int) t) :=
  clampInt_eq (by omega) t

theorem PassCopy.bounds_of_unready (h : (p.image.envelope.get a).fresh = false ∨ (p.image.envelope.get a).fields.ready = false) :
    p.driveBound a = 0 ∧ p.regenBound a = 0 := by
  have zero : ((p.image.envelope.get a).fresh && (p.image.envelope.get a).fields.ready) = false := by
    rcases h with h | h <;> simp [h]
  simp only [PassCopy.driveBound, PassCopy.regenBound, zero]
  exact ⟨Nat.le_zero.1 (smallest_le_first _ _), Nat.le_zero.1 (smallest_le_first _ _)⟩

/-- No bound is above a ceiling on its axle (R18, R69). -/
theorem PassCopy.bound_le_ceiling {q : Limit} (hq : q ∈ p.limits) (covers : q.axle.covers a = true) :
    (q.kind = .driveCeil → p.driveBound a ≤ q.value) ∧ (q.kind = .regenCeil → p.regenBound a ≤ q.value) :=
  ⟨fun kind => smallest_le_mem _ (mem_ceilings.2 ⟨q, hq, covers, kind, rfl⟩),
    fun kind => smallest_le_mem _ (mem_ceilings.2 ⟨q, hq, covers, kind, rfl⟩)⟩

/-- Each bound is one of its terms (R18). -/
theorem PassCopy.bound_attained (fresh : (p.image.envelope.get a).fresh = true)
    (ready : (p.image.envelope.get a).fields.ready = true) :
    (p.driveBound a = (p.image.envelope.get a).fields.drive ∨
      ∃ q ∈ p.limits, q.axle.covers a = true ∧ q.kind = .driveCeil ∧ p.driveBound a = q.value) ∧
    (p.regenBound a = (p.image.envelope.get a).fields.regen ∨
      ∃ q ∈ p.limits, q.axle.covers a = true ∧ q.kind = .regenCeil ∧ p.regenBound a = q.value) := by
  have drive := smallest_mem (p.image.envelope.get a).fields.drive (ceilings p.limits .driveCeil a)
  have regen := smallest_mem (p.image.envelope.get a).fields.regen (ceilings p.limits .regenCeil a)
  rw [mem_ceilings] at drive regen
  simpa [PassCopy.driveBound, PassCopy.regenBound, fresh, ready] using And.intro drive regen

/-- A clip by the sign of what it clips (R19). -/
theorem PassCopy.clip_between (t : Int) :
    (0 ≤ t → 0 ≤ p.clip a t ∧ p.clip a t ≤ t) ∧ (t ≤ 0 → t ≤ p.clip a t ∧ p.clip a t ≤ 0) := by
  rw [p.clip_eq]
  omega

theorem PassCopy.target_eq : p.target a = p.clip a (p.clip a (p.afterSlip a) +
    if p.slipping a = false ∧ carriesNoTransfer p.limits a = false
    then p.afterSlip a.other - p.clip a.other (p.afterSlip a.other) else 0) := by
  simp [PassCopy.target, PassCopy.spilled, PassCopy.eligible, PassCopy.excess, PassCopy.mayReceive]

/-- Clip and spill keep a common sign and add no torque (R19, R20). -/
theorem PassCopy.target_spec :
    ((∀ a, 0 ≤ p.afterSlip a) → (∀ a, 0 ≤ p.target a) ∧
      p.target .front + p.target .rear ≤ p.afterSlip .front + p.afterSlip .rear) ∧
    ((∀ a, p.afterSlip a ≤ 0) → (∀ a, p.target a ≤ 0) ∧
      p.afterSlip .front + p.afterSlip .rear ≤ p.target .front + p.target .rear) := by
  have excess (a : Axle) : p.excess a = p.afterSlip a - p.clip a (p.afterSlip a) := rfl
  have spill (a : Axle) : p.spilled a = p.clip a (p.afterSlip a) ∨
      p.spilled a = p.clip a (p.afterSlip a) + p.excess a.other := by
    unfold PassCopy.spilled
    split_ifs
    · exact .inr rfl
    · exact .inl (Int.add_zero _)
  have first := fun a => p.clip_between a (p.afterSlip a)
  have last := fun a => p.clip_between a (p.spilled a)
  refine ⟨fun sign => ?_, fun sign => ?_⟩
  · have between (a : Axle) : 0 ≤ p.target a ∧ p.target a ≤ p.clip a (p.afterSlip a) + p.excess a.other := by
      have := (first a).1 (sign a)
      have := (first a.other).1 (sign a.other)
      have := excess a.other
      have := (last a).1 (by rcases spill a with e | e <;> omega)
      unfold PassCopy.target
      rcases spill a with e | e <;> omega
    have hf := between .front
    have hr := between .rear
    simp only [Axle.other, excess] at hf hr
    exact ⟨fun a => (between a).1, by omega⟩
  · have between (a : Axle) : p.target a ≤ 0 ∧ p.clip a (p.afterSlip a) + p.excess a.other ≤ p.target a := by
      have := (first a).2 (sign a)
      have := (first a.other).2 (sign a.other)
      have := excess a.other
      have := (last a).2 (by rcases spill a with e | e <;> omega)
      unfold PassCopy.target
      rcases spill a with e | e <;> omega
    have hf := between .front
    have hr := between .rear
    simp only [Axle.other, excess] at hf hr
    exact ⟨fun a => (between a).1, by omega⟩

theorem PassCopy.target_mem : -(p.regenBound a : Int) ≤ p.target a ∧ p.target a ≤ p.driveBound a := by
  obtain ⟨low, high, -⟩ := p.clip_spec a (p.spilled a)
  exact ⟨low, high⟩

end

/-- What of stages 6 to 8 rests on the ranges of the demand and the share (R15 to R20). -/
theorem PassCopy.stages6to8_spec (p : PassCopy) (share : p.share ≤ 1000) :
    (∀ a, (0 ≤ p.demand → 0 ≤ p.afterSlip a ∧ 0 ≤ p.target a) ∧
      (p.demand ≤ 0 → p.afterSlip a ≤ 0 ∧ p.target a ≤ 0)) ∧
    |p.afterSlip .front| + |p.afterSlip .rear| ≤ |p.demand| ∧
    |p.target .front| + |p.target .rear| ≤ |p.afterSlip .front| + |p.afterSlip .rear| := by
  obtain ⟨slipPos, slipNeg⟩ := p.afterSlip_spec share
  obtain ⟨targetPos, targetNeg⟩ := p.target_spec
  refine ⟨fun a => ⟨fun hd => ⟨(slipPos hd).1 a, (targetPos (slipPos hd).1).1 a⟩,
    fun hd => ⟨(slipNeg hd).1 a, (targetNeg (slipNeg hd).1).1 a⟩⟩, ?_⟩
  rcases le_total 0 p.demand with hd | hd
  · obtain ⟨sign, sum⟩ := slipPos hd
    obtain ⟨targetSign, targetSum⟩ := targetPos sign
    simp only [abs_of_nonneg hd, abs_of_nonneg (sign _), abs_of_nonneg (targetSign _)]
    exact ⟨sum, targetSum⟩
  · obtain ⟨sign, sum⟩ := slipNeg hd
    obtain ⟨targetSign, targetSum⟩ := targetNeg sign
    simp only [abs_of_nonpos hd, abs_of_nonpos (sign _), abs_of_nonpos (targetSign _)]
    omega

/-- Settles O50. -/
theorem cutTransferAndSpillAddNothing : Obligations.CutTransferAndSpillAddNothing := by
  intro p
  refine ⟨fun a => ?_, fun _ share => ?_⟩
  · intro r sigma ref torque within e
    have hsigma : sigma = p.sigma := by
      show _ = r.fields.direction.sigma
      cases h : r.fields.direction <;> simp only [sigma, h, Direction.sigma]
    have href : ref = p.omegaRef := congrArg (· * _) hsigma
    have hwithin (b : Axle) (t : Int) : within b t = p.clip b t := (p.clip_eq b t).symm
    rw [href, hsigma, hwithin, hwithin, hwithin]
    exact ⟨p.noSlip_iff a, p.slip_of_marked a, p.slipping_iff a, carriesNoTransfer_iff a, fun x => LimitAxle.covers_iff a,
      p.received_of_transfer a, rfl, p.bounds_of_unready a, p.bound_le a, fun q hq => p.bound_le_ceiling a hq,
      p.bound_attained a, p.target_eq a⟩
  · obtain ⟨signs, sums⟩ := p.stages6to8_spec share
    refine ⟨fun a => ?_, sums⟩
    obtain ⟨low, high⟩ := p.target_mem a
    obtain ⟨pos, neg⟩ := signs a
    obtain ⟨receivedPos, receivedNeg⟩ := p.received_mem share a
    have received : |p.received a| ≤ min (p.cut a.other) p.policy.transferCap := by
      rcases le_total 0 p.demand with hd | hd
      · rw [abs_of_nonneg (receivedPos hd).1]
        exact (receivedPos hd).2
      · rw [abs_of_nonpos (receivedNeg hd).1]
        exact (receivedNeg hd).2
    refine ⟨p.cut_of_not_slipping a, fun h => ?_, fun h => ⟨p.slip_of_noSlip a h, ?_⟩, p.abs_slip_le a,
      received.trans (min_le_left _ _), received.trans (min_le_right _ _), p.received_of_closed a, low, high, pos, neg⟩
    · obtain ⟨torque, beyond⟩ := p.slipping_spec a h
      exact ⟨beyond, torque, p.cut_of_slipping a h⟩
    · rw [← Bool.not_eq_true, p.slipping_iff a, h]
      simp

end Sys2Proof.Machine
end

section
/-! SUPPORT. Stages 9 to 12 of a pass: rate, reversal and hold, the total ceiling, the interlock, and what is
published (R21 to R29). -/

namespace Sys2Proof.Machine

/-! ### Stage 9 -/

section
variable {prev target rate : Int} {hold : Nat} {c : AxleCarry}

theorem signOf_of_ne_zero {t : Int} (h : t ≠ 0) : signOf t = if 0 < t then .positive else .negative := by
  rcases lt_or_gt_of_ne h with negative | positive
  · rw [signOf, if_neg (by omega), if_pos negative, if_neg (by omega)]
  · rw [signOf, if_pos positive, if_pos positive]

/-- Running down: a target of zero or of the other sign (R22). -/
theorem runsDown_iff : prev ≠ 0 ∧ (target = 0 ∨ signOf target ≠ signOf prev) ↔
    0 < prev ∧ target ≤ 0 ∨ prev < 0 ∧ 0 ≤ target := by
  rcases lt_trichotomy prev 0 with hp | rfl | hp <;> rcases lt_trichotomy target 0 with ht | rfl | ht <;>
    simp [signOf, *, not_lt_of_gt, le_of_lt, ne_of_lt, ne_of_gt]

theorem stage9_of_runsDown (h : 0 < prev ∧ target ≤ 0 ∨ prev < 0 ∧ 0 ≤ target) :
    stage9 prev target rate hold c = (moveToward prev 0 rate, c) := if_pos (runsDown_iff.2 h)

/-- The counter of a hold: its own where it runs, REVERSAL_HOLD where it begins (R23). -/
def AxleCarry.counter (c : AxleCarry) (hold : Nat) : Nat := if c.holdActive then c.holdCounter else hold

/-- A reversal from rest that must still wait (R23). -/
theorem stage9_of_waits (turns : target ≠ 0 ∧ c.lastSign ≠ .none ∧ signOf target ≠ c.lastSign) (waits : 0 < c.counter hold) :
    stage9 0 target rate hold c = (0, { c with holdActive := true, holdCounter := c.counter hold - 1 }) := by
  rw [stage9, if_neg (by simp), if_pos ⟨rfl, turns⟩]
  exact if_pos waits

/-- A reversal from rest whose hold has run out (R23). -/
theorem stage9_of_turns (turns : target ≠ 0 ∧ c.lastSign ≠ .none ∧ signOf target ≠ c.lastSign) (done : c.counter hold = 0) :
    stage9 0 target rate hold c =
      (moveToward 0 target rate, { lastSign := signOf target, holdActive := false, holdCounter := 0 }) := by
  have turned : stage9 0 target rate hold c =
      (moveToward 0 target rate, { lastSign := signOf target, holdActive := false, holdCounter := c.counter hold }) := by
    rw [stage9, if_neg (by simp), if_pos ⟨rfl, turns⟩]
    exact if_neg (show ¬ 0 < c.counter hold by omega)
  rw [turned, done]

/-- An axle that continues, starts or rests (R24). -/
theorem stage9_of_continues (straight : ¬ (0 < prev ∧ target ≤ 0 ∨ prev < 0 ∧ 0 ≤ target))
    (unheld : ¬ (prev = 0 ∧ target ≠ 0 ∧ c.lastSign ≠ .none ∧ signOf target ≠ c.lastSign)) :
    let t := moveToward prev target rate
    stage9 prev target rate hold c = (t, { c with lastSign := if t = 0 then c.lastSign else signOf t, holdActive := false }) := by
  rw [stage9, if_neg (runsDown_iff.not.2 straight), if_neg unheld]

/-- A run of passes that all ask for the other sign and that the hold outlasts (R23). -/
theorem stage9Run_of_waits {asked : List (Int × Int)} (last : c.lastSign ≠ .none)
    (turns : ∀ x ∈ asked, x.1 ≠ 0 ∧ signOf x.1 ≠ c.lastSign) (outlasts : asked.length ≤ c.counter hold) :
    stage9Run hold 0 c asked = (List.replicate asked.length 0, if asked = [] then c
      else { c with holdActive := true, holdCounter := c.counter hold - asked.length }) := by
  induction asked generalizing c with
  | nil => rfl
  | cons x rest ih =>
    obtain ⟨target, rate⟩ := x
    simp only [List.length_cons] at outlasts
    obtain ⟨nonzero, other⟩ := turns _ (List.mem_cons_self ..)
    have step := stage9_of_waits (rate := rate) (c := c) ⟨nonzero, last, other⟩ (Nat.zero_lt_of_lt outlasts)
    have next := ih (c := { c with holdActive := true, holdCounter := c.counter hold - 1 }) last
      (fun y hy => turns y (List.mem_cons_of_mem _ hy)) (Nat.le_sub_of_add_le outlasts)
    simp only [stage9Run, step, next]
    by_cases single : rest = []
    · simp [single]
    · simp [single, AxleCarry.counter, List.replicate_succ]
      omega

end

/-- From rest an axle moves by the smaller of the rate and the target, in the target's sign (R23). -/
theorem moveToward_zero_spec {rate : Int} (target : Int) (pos : 0 < rate) :
    |moveToward 0 target rate| = min rate |target| ∧ signOf (moveToward 0 target rate) = signOf target := by
  obtain ⟨near, above, below⟩ := moveToward_eq 0 target rate pos.le
  rcases le_or_gt |target| rate with h | h
  · rw [near (by simpa using h)]
    exact ⟨(min_eq_right h).symm, rfl⟩
  · rw [min_eq_left h.le]
    rcases lt_abs.1 h with h | h
    · rw [above (by omega), Int.zero_add, abs_of_pos pos]
      exact ⟨rfl, by rw [(signOf_eq rate).1.2 pos, (signOf_eq target).1.2 (by omega)]⟩
    · rw [below (by omega), zero_sub, abs_neg, abs_of_pos pos]
      exact ⟨rfl, by rw [(signOf_eq (-rate)).2.1.2 (by omega), (signOf_eq target).2.1.2 (by omega)]⟩

/-! ### The total ceiling and the interlock -/

section
variable (p : PassCopy)

/-- The ceiling and what it does to the value of an axle (R26). -/
theorem PassCopy.limited_between (a : Axle) :
    (0 ≤ p.clipped9 a → 0 ≤ p.limited a ∧ p.limited a ≤ p.clipped9 a) ∧
    (p.clipped9 a ≤ 0 → p.clipped9 a ≤ p.limited a ∧ p.limited a ≤ 0) := by
  unfold PassCopy.limited
  split_ifs with h
  · have above : 16000 < |p.clipped9 a| + |p.clipped9 a.other| := by
      unfold PassCopy.ceilingAxle at h
      split_ifs at h <;> cases a <;> simp only [Axle.other] <;> omega
    have low : 0 ≤ max 0 (16000 - |p.clipped9 a.other|) := le_max_left _ _
    have high : max 0 (16000 - |p.clipped9 a.other|) ≤ |p.clipped9 a| := max_le (abs_nonneg _) (by omega)
    obtain ⟨pos, neg⟩ := sign_mul_of_le low high
    refine ⟨fun hc => ?_, fun hc => ?_⟩
    · rw [pos hc]
      rw [abs_of_nonneg hc] at high
      exact ⟨low, high⟩
    · rw [neg hc]
      rw [abs_of_nonpos hc] at high
      exact ⟨by omega, by omega⟩
  · omega

theorem PassCopy.limited_of_under (h : |p.clipped9 .front| + |p.clipped9 .rear| ≤ 16000) (a : Axle) :
    p.limited a = p.clipped9 a := if_neg (by simp [PassCopy.ceilingAxle, h])

/-- Above the ceiling the axle that grew alone gives way (R26). -/
theorem PassCopy.ceilingAxle_of_grew {a : Axle} (above : 16000 < |p.clipped9 .front| + |p.clipped9 .rear|)
    (grew : |p.prev.get a| < |p.clipped9 a|) (other : |p.clipped9 a.other| ≤ |p.prev.get a.other|) :
    p.ceilingAxle = some a := by
  have grown : p.grew a = true := decide_eq_true grew
  have kept : p.grew a.other = false := decide_eq_false (not_lt.2 other)
  cases a <;> simp only [Axle.other] at kept <;> simp [PassCopy.ceilingAxle, not_le.2 above, grown, kept]

theorem PassCopy.limited_of_ceiling {a : Axle} (h : p.ceilingAxle = some a) :
    p.limited a = (p.clipped9 a).sign * max 0 (16000 - |p.clipped9 a.other|) ∧ p.limited a.other = p.clipped9 a.other := by
  refine ⟨if_pos h, if_neg ?_⟩
  rw [h]
  cases a <;> simp [Axle.other]

/-- Previous commands in range have magnitudes that together respect the ceiling. -/
theorem CommandsOk.sum_le {t : PerAxle Int} (h : CommandsOk t) (a : Axle) : |t.get a| + |t.get a.other| ≤ 16000 := by
  obtain ⟨sum, -⟩ := h
  cases a
  · exact sum
  · exact (add_comm _ _).trans_le sum

theorem PassCopy.limited_of_grew (prev : CommandsOk p.prev) {a : Axle}
    (above : 16000 < |p.clipped9 .front| + |p.clipped9 .rear|) (grew : |p.prev.get a| < |p.clipped9 a|)
    (other : |p.clipped9 a.other| ≤ |p.prev.get a.other|) :
    p.limited a = (p.clipped9 a).sign * (16000 - |p.clipped9 a.other|) ∧ p.limited a.other = p.clipped9 a.other ∧
      |p.prev.get a| ≤ |p.limited a| := by
  obtain ⟨self, unchanged⟩ := p.limited_of_ceiling (p.ceilingAxle_of_grew above grew other)
  have room := prev.sum_le a
  have nonneg := abs_nonneg (p.prev.get a)
  rw [max_eq_right (by omega)] at self
  refine ⟨self, unchanged, ?_⟩
  have nonzero : p.clipped9 a ≠ 0 := abs_pos.1 (by omega)
  rw [self, abs_mul, Int.abs_sign_of_ne_zero nonzero, one_mul, abs_of_nonneg (show 0 ≤ 16000 - |p.clipped9 a.other| by omega)]
  omega

/-- Under the ceiling the values of both axles stay within 16000 together (R26). -/
theorem PassCopy.abs_limited_le (prev : CommandsOk p.prev)
    (envelope : p.image.envelope.All (fun e => e.fields.drive ≤ 16000 ∧ e.fields.regen ≤ 16000)) :
    |p.limited .front| + |p.limited .rear| ≤ 16000 := by
  have bounded (a : Axle) : |p.clipped9 a| ≤ 16000 := by
    obtain ⟨low, high, -⟩ := p.clip_spec a (p.stepped a).1
    obtain ⟨drive, regen⟩ := p.bound_le a
    have caps : (p.image.envelope.get a).fields.drive ≤ 16000 ∧ (p.image.envelope.get a).fields.regen ≤ 16000 := by
      cases a
      · exact envelope.1
      · exact envelope.2
    rw [abs_le]
    unfold PassCopy.clipped9
    omega
  have reduced (a : Axle) (h : p.ceilingAxle = some a) : |p.limited a| + |p.limited a.other| ≤ 16000 := by
    obtain ⟨self, other⟩ := p.limited_of_ceiling h
    have := bounded a.other
    have sign : |(p.clipped9 a).sign| ≤ 1 := by
      rcases Int.sign_trichotomy (p.clipped9 a) with e | e | e <;> rw [e] <;> decide
    have : |p.limited a| ≤ 16000 - |p.clipped9 a.other| := by
      rw [self, abs_mul, max_eq_right (by omega), abs_of_nonneg (show 0 ≤ 16000 - |p.clipped9 a.other| by omega)]
      exact mul_le_of_le_one_left (by omega) sign
    rw [other]
    omega
  rcases h : p.ceilingAxle with _ | a
  · rw [PassCopy.limited, PassCopy.limited, if_neg (by simp [h]), if_neg (by simp [h])]
    obtain ⟨sum, -⟩ := prev
    unfold PassCopy.ceilingAxle at h
    simp only [PassCopy.grew, decide_eq_true_eq] at h
    split_ifs at h with under front rear
    · exact under
    · simp only [PerAxle.get_front, PerAxle.get_rear] at front rear
      omega
  · cases a
    · exact reduced .front h
    · exact (add_comm _ _).trans_le (reduced .rear h)

theorem PassCopy.opposed_iff : opposed (p.limited .front) (p.limited .rear) = true ↔
    0 < p.limited .front ∧ p.limited .rear < 0 ∨ p.limited .front < 0 ∧ 0 < p.limited .rear := decide_eq_true_iff

theorem PassCopy.interlocked_of_aligned (h : opposed (p.limited .front) (p.limited .rear) = false) : p.interlocked = none := by
  simp [PassCopy.interlocked, h]

/-- Which axle the interlock zeroes: the one that turned, or the one at rest before (R27). -/
theorem PassCopy.interlocked_of_opposed (h : opposed (p.limited .front) (p.limited .rear) = true) :
    ∃ a, p.interlocked = some a ∧ (∀ b, p.turned b = true → p.turned b.other = false → a = b) ∧
      ∀ b, p.turned b = false → p.turned b.other = false → p.prev.get b = 0 → p.prev.get b.other ≠ 0 → a = b := by
  have chosen : p.interlocked = if p.turned .front then some .front else if p.turned .rear then some .rear
      else if p.prev.front = 0 then some .front else some .rear := if_pos h
  rw [chosen]
  cases front : p.turned .front
  · cases rear : p.turned .rear
    · by_cases rest : p.prev.front = 0
      · refine ⟨.front, by simp [rest], fun b => ?_, fun b => ?_⟩ <;> cases b <;> simp [Axle.other, front, rear, rest]
      · refine ⟨.rear, by simp [rest], fun b => ?_, fun b => ?_⟩ <;> cases b <;> simp [Axle.other, front, rear, rest]
    · refine ⟨.rear, by simp, fun b => ?_, fun b => ?_⟩ <;> cases b <;> simp [Axle.other, front, rear]
  · refine ⟨.front, by simp, fun b => ?_, fun b => ?_⟩ <;> cases b <;> simp [Axle.other, front]

theorem PassCopy.locked_of_interlocked {a : Axle} (h : p.interlocked = some a) :
    p.locked a = 0 ∧ p.lockedCarry a = p.carried.axle.get a ∧ p.locked a.other = p.limited a.other ∧
      p.lockedCarry a.other = (p.stepped a.other).2 := by
  have other : p.interlocked ≠ some a.other := by
    rw [h]
    cases a <;> simp [Axle.other]
  exact ⟨if_pos h, if_pos h, if_neg other, if_neg other⟩

theorem PassCopy.locked_of_none (h : p.interlocked = none) (a : Axle) :
    p.locked a = p.limited a ∧ p.lockedCarry a = (p.stepped a).2 := by
  simp [PassCopy.locked, PassCopy.lockedCarry, h]

/-- A command is 0, or what the ceiling left (R27, R28). -/
theorem PassCopy.command_cases (forced : Bool) (a : Axle) : p.command forced a = 0 ∨ p.command forced a = p.limited a := by
  unfold PassCopy.command PassCopy.locked
  split_ifs <;> simp

/-- The commands are never opposed (R27). -/
theorem PassCopy.command_aligned (forced : Bool) :
    ¬ (0 < p.command forced .front ∧ p.command forced .rear < 0) ∧
    ¬ (p.command forced .front < 0 ∧ 0 < p.command forced .rear) := by
  cases h : opposed (p.limited .front) (p.limited .rear)
  · have aligned := p.opposed_iff.not.1 (by simp [h])
    have front := p.command_cases forced .front
    have rear := p.command_cases forced .rear
    omega
  · obtain ⟨a, ha, -⟩ := p.interlocked_of_opposed h
    have zero : p.command forced a = 0 := by
      cases forced
      · exact (p.locked_of_interlocked ha).1
      · rfl
    cases a <;> omega

/-- A command lies within the bounds of its axle, no more than the rate bound above the previous one, and not
across zero from it (R19, R21 to R24). -/
theorem PassCopy.command_spec (forced : Bool) (a : Axle) :
    -(p.regenBound a : Int) ≤ p.command forced a ∧ p.command forced a ≤ p.driveBound a ∧
      |p.command forced a| ≤ |p.prev.get a| + p.rate a ∧
      ¬ (0 < p.prev.get a ∧ p.command forced a < 0) ∧ ¬ (p.prev.get a < 0 ∧ 0 < p.command forced a) := by
  obtain ⟨low, high, clipped, pos, neg⟩ := p.clip_spec a (p.stepped a).1
  obtain ⟨grows, up, down⟩ := stage9_spec (p.prev.get a) (p.target a) (p.rate a) (p.config.val .reversalHold)
    (p.carried.axle.get a) (Int.natCast_nonneg _)
  obtain ⟨limitedPos, limitedNeg⟩ := p.limited_between a
  have cases := p.command_cases forced a
  have stepped : stage9 (p.prev.get a) (p.target a) (p.rate a) (p.config.val .reversalHold) (p.carried.axle.get a) =
      p.stepped a := rfl
  have clip : p.clip a (p.stepped a).1 = p.clipped9 a := rfl
  rw [clip] at low high clipped pos neg
  rw [stepped] at grows up down
  simp only [abs_eq_max_neg] at *
  omega

theorem PassCopy.commands_ok (prev : CommandsOk p.prev)
    (envelope : p.image.envelope.All (fun e => e.fields.drive ≤ 16000 ∧ e.fields.regen ≤ 16000)) (forced : Bool) :
    CommandsOk (PerAxle.of (p.command forced)) := by
  refine ⟨?_, p.command_aligned forced⟩
  have sum := p.abs_limited_le prev envelope
  have reduced (a : Axle) : |p.command forced a| ≤ |p.limited a| := by
    rcases p.command_cases forced a with e | e <;> rw [e]
    simp
  have := reduced .front
  have := reduced .rear
  simp only [PerAxle.of_front, PerAxle.of_rear]
  omega

/-- BOUND, in terms of the bounds (R18, R20, R26). -/
theorem PassCopy.bound_iff (forced : Bool) (a : Axle) :
    let outside := fun t : Int => t < -(p.regenBound a : Int) ∨ (p.driveBound a : Int) < t
    (p.flags forced a).bound = true ↔ outside (p.afterSlip a) ∨ outside (p.spilled a) ∨ outside (p.stepped a).1 ∨
      p.limited a ≠ p.clipped9 a := by
  intro outside
  have clip (t : Int) : p.clip a t ≠ t ↔ outside t := p.clip_ne_iff a t
  have clips : p.clipped8 a = true ↔ p.clip a (p.afterSlip a) ≠ p.afterSlip a ∨ p.target a ≠ p.spilled a := decide_eq_true_iff
  have ceiling : p.bound9 a = true ↔ p.clipped9 a ≠ (p.stepped a).1 ∨ p.limited a ≠ p.clipped9 a := decide_eq_true_iff
  rw [← clip, ← clip, ← clip, ← or_assoc, ← PassCopy.target, ← PassCopy.clipped9, ← clips, ← ceiling]
  exact Bool.or_eq_true_iff

end

/-- Settles O51. -/
theorem commandsBoundedRatedAndAligned : Obligations.CommandsBoundedRatedAndAligned := by
  intro p forced
  refine ⟨⟨fun a => ?_, rfl, rfl, rfl, ?_, ?_, ?_, ?_, rfl⟩, fun a => ?_, fun prev a => ?_, fun prev envelope => ?_⟩
  · intro outside g
    have hg : g = p.flags forced a := PerAxle.get_of _ a
    rw [hg]
    refine ⟨PerAxle.get_of _ a, PerAxle.get_of _ a, rfl, by simp [PassCopy.flags], p.bound_iff forced a, ?_⟩
    cases forced <;> simp [PassCopy.flags, PassCopy.carry]
  · simp [PassCopy.publish, refUsable, imp_iff_not_or]
  · simp [PassCopy.publish]
  · simp [PassCopy.publish]
  · simp [PassCopy.publish]
  · obtain ⟨rate, ceiling⟩ := p.rate_le a
    refine ⟨rate, fun r hr covers kind => ceiling r hr kind covers, ?_, p.clip_eq a _, ?_, ?_⟩
    · have attained := smallest_mem (p.config.val .rateLimit) (ceilings p.limits .rateCeil a)
      rwa [mem_ceilings] at attained
    · rintro rfl
      exact ⟨rfl, rfl⟩
    · rintro rfl
      exact ⟨rfl, rfl⟩
  · exact ⟨fun under => p.limited_of_under under a, p.limited_of_grew prev⟩
  · refine ⟨fun a => ?_, (p.commands_ok prev envelope forced).1, p.command_aligned forced⟩
    obtain ⟨low, high, grows, up, down⟩ := p.command_spec forced a
    obtain ⟨rate, ceiling⟩ := p.rate_le a
    exact ⟨low, high, grows, rate, ceiling, up, down⟩

/-- The hold of a reversal, from the pass that begins it to the pass that turns (R23). -/
theorem reversal_waits {hold : Nat} {c : AxleCarry} {asked : List (Int × Int)} {target rate : Int}
    (rest : c.holdActive = false) (last : c.lastSign ≠ .none) (length : asked.length = hold)
    (turns : ∀ x ∈ asked, x.1 ≠ 0 ∧ signOf x.1 ≠ c.lastSign ∧ 0 < x.2) (nonzero : target ≠ 0)
    (other : signOf target ≠ c.lastSign) (pos : 0 < rate) :
    let x := stage9Run hold 0 c asked
    x.1 = List.replicate hold 0 ∧ x.2.lastSign = c.lastSign ∧ (0 < hold → x.2.holdActive = true ∧ x.2.holdCounter = 0) ∧
    (let y := stage9 0 target rate hold x.2
     |y.1| = min rate |target| ∧ signOf y.1 = signOf target ∧ y.2.lastSign = signOf target ∧ y.2.holdActive = false) ∧
    (stage9 0 0 rate hold x.2).2 = { x.2 with holdActive := false } ∧ (stage9 0 0 rate hold x.2).1 = 0 := by
  intro x
  have counter : c.counter hold = hold := by simp [AxleCarry.counter, rest]
  have run : x = _ := stage9Run_of_waits last (fun y hy => ⟨(turns y hy).1, (turns y hy).2.1⟩) (by rw [counter, length])
  have lastSign : x.2.lastSign = c.lastSign := by
    rw [run]
    dsimp only
    split_ifs <;> rfl
  have held : 0 < hold → x.2.holdActive = true ∧ x.2.holdCounter = 0 := by
    intro positive
    have : asked ≠ [] := by
      rintro rfl
      simp at length
      omega
    simp [run, this, counter, length]
  have done : x.2.counter hold = 0 := by
    rcases Nat.eq_zero_or_pos hold with zero | positive
    · have : asked = [] := List.length_eq_zero_iff.1 (length.trans zero)
      simp [run, this, zero]
      simp [AxleCarry.counter, rest]
    · obtain ⟨active, zero⟩ := held positive
      simp [AxleCarry.counter, active, zero]
  have turn := stage9_of_turns (rate := rate) (c := x.2) (target := target) (hold := hold)
    ⟨nonzero, by rw [lastSign]; exact last, by rw [lastSign]; exact other⟩ done
  have cancel := stage9_of_continues (prev := 0) (target := 0) (rate := rate) (hold := hold) (c := x.2) (by simp) (by simp)
  have zero : moveToward 0 0 rate = 0 := moveToward_reaches (by simpa using pos.le)
  obtain ⟨size, sign⟩ := moveToward_zero_spec target pos
  rw [turn, cancel, zero]
  exact ⟨by rw [run, length], lastSign, held, ⟨size, sign, rfl, rfl⟩, by simp, rfl⟩

/-- Settles O53. -/
theorem reversalWaitsTheHold : Obligations.ReversalWaitsTheHold := by
  refine ⟨?_, fun p a => rfl, fun p => ?_, fun hold c asked target rate rest last length turns nonzero other pos =>
    reversal_waits rest last length turns nonzero other pos⟩
  · intro prev target rate hold c pos x caseA caseB
    refine ⟨fun down => ?_, fun notA notB => ?_⟩
    · have e : x = _ := stage9_of_runsDown down
      obtain ⟨near, above, below⟩ := moveToward_eq prev 0 rate pos
      rw [e]
      exact ⟨rfl, fun h => near (by simpa using h), fun h => below (by omega), fun h => above (by omega)⟩
    · have unheld : ¬ (prev = 0 ∧ target ≠ 0 ∧ c.lastSign ≠ .none ∧ signOf target ≠ c.lastSign) := by
        rintro ⟨zero, nonzero, last, other⟩
        rw [signOf_of_ne_zero nonzero] at other
        exact notB ⟨zero, nonzero, last, other.symm⟩
      have e : x = _ := stage9_of_continues notA unheld
      obtain ⟨near, above, below⟩ := moveToward_eq prev target rate pos
      rw [e]
      refine ⟨near, above, below, ?_⟩
      by_cases zero : moveToward prev target rate = 0
      · simp [zero]
      · simp [zero, signOf_of_ne_zero]
  · intro opposite turned
    refine ⟨fun aligned => ?_, fun opp => ?_⟩
    · have free := p.interlocked_of_aligned (by rw [← Bool.not_eq_true, p.opposed_iff]; exact aligned)
      exact ⟨free, p.locked_of_none free⟩
    · obtain ⟨a, ha, one, still⟩ := p.interlocked_of_opposed (p.opposed_iff.2 opp)
      have turned_iff (b : Axle) : turned b ↔ p.turned b = true := by
        have nonzero : p.limited b ≠ 0 := by cases b <;> rcases opp with h | h <;> omega
        simp only [turned, PassCopy.turned, signOf_of_ne_zero nonzero, decide_eq_true_eq]
        exact ne_comm
      obtain ⟨zero, carry, other, otherCarry⟩ := p.locked_of_interlocked ha
      refine ⟨a, ha, zero, carry, by simp [PassCopy.flags, ha], other, otherCarry, fun b => ?_, fun b => ?_⟩
      · rw [turned_iff, turned_iff, Bool.not_eq_true]
        exact one b
      · rw [turned_iff, turned_iff, Bool.not_eq_true, Bool.not_eq_true]
        exact still b

end Sys2Proof.Machine
end

section
/-! SUPPORT. The periodic frames, the completion of a pass and the falling of TOFF_N: what each queues, byte by
byte, and what it leaves (R28, R29, R128, R131, R141 to R148). -/

namespace Sys2Proof.Machine

/-! ### Frames -/

/-- A flag byte reads back bit by bit (R163). -/
theorem flagByte_getLsbD (bits : List Bool) {n : Nat} (h : n < 8) : (flagByte bits).getLsbD n = bits.getD n false := by
  have testBit (bits : List Bool) (n : Nat) :
      (bits.foldr (fun (b : Bool) (m : Nat) => b.toNat + 2 * m) 0).testBit n = bits.getD n false := by
    induction bits generalizing n with
    | nil => simp
    | cons b rest ih =>
      rw [List.foldr_cons]
      cases n with
      | zero => cases b <;> simp [Nat.testBit_zero]
      | succ n =>
        have half : (b.toNat + 2 * rest.foldr (fun (b : Bool) (m : Nat) => b.toNat + 2 * m) 0) / 2 =
            rest.foldr (fun (b : Bool) (m : Nat) => b.toNat + 2 * m) 0 := by
          have := Bool.toNat_le b
          omega
        rw [Nat.testBit_succ, half, ih]
        rfl
  rw [flagByte, BitVec.getLsbD_ofNat, testBit]
  simp [h]

/-- The AXLE_COMMAND of an axle, byte by byte (R143). -/
theorem State.axleCommand_eq (s : State) (a : Axle) : s.axleCommand a =
    { kind := 0x21, tag := 0
      payload := [BitVec.ofInt 8 (s.ale.published.torque.get a), BitVec.ofInt 8 (s.ale.published.torque.get a / 256),
        s.ptm.periodCount.setWidth 8,
        flagByte [s.act.state = .forcedOff, s.act.state = .standby, (s.ale.published.flags.get a).hold,
          (s.ale.published.flags.get a).slipCut, (s.ale.published.flags.get a).bound,
          (s.ale.published.flags.get a).envStale, (s.liuOf a.link).linkEvent]] } := by
  simp [State.axleCommand, int2_eq, Ptm.countByte_eq, Frame.axleCommandCode]

/-- A periodic frame touches the transmit side of its link alone. -/
theorem Liu.putPeriodic_faulted (u : Liu) (f : Frame) : (u.putPeriodic f).faulted = u.faulted := by
  unfold Liu.putPeriodic Liu.startNext
  split <;> rfl

theorem Liu.putPeriodic_of_busy {u : Liu} (busy : u.tx ≠ .idle) (f : Frame) :
    u.putPeriodic f = { u with txQueue := placePeriodic f u.txQueue } :=
  Liu.startNext_of_busy (u := { u with txQueue := placePeriodic f u.txQueue }) busy

theorem Liu.putPeriodic_of_idle {u : Liu} (idle : u.tx = .idle) (empty : u.txQueue = []) (f : Frame) :
    u.putPeriodic f = { u with tx := .sending f 0, linkEvent := u.linkEvent && !f.linkEvent } := by
  simp [Liu.putPeriodic, empty, placePeriodic, Liu.startNext, idle]

section
variable (s : State)

/-- Both AXLE_COMMANDs sent: each on its own inverter's link (R142, R146). -/
theorem State.liuOf_sendCommands :
    let t := (s.sendCommand .front).sendCommand .rear
    (∀ a : Axle, t.liuOf a.link = (s.liuOf a.link).putPeriodic (s.axleCommand a)) ∧
      t.liuOf .vsc = s.liuOf .vsc ∧ t.liuOf .sbc = s.liuOf .sbc := by
  intro t
  refine ⟨fun a => ?_, rfl, rfl⟩
  cases a <;> rfl

end

/-! ### The falling of TOFF_N -/

theorem Act.filterDue_iff {x : Act} {level : Bool} :
    x.filterDue level = true ↔ x.pinLevel = level ∧ x.filtered = !level ∧ 200 ≤ x.held := by
  simp [Act.filterDue, toffFilterClocks, clocksPerMicro, and_assoc]

theorem exec_toffNFalling {s : State} (run : s.inReset = false) (due : s.act.filterDue false = true) :
    exec .toffNFalling s = .next s.torqueOff := by
  simp [exec, execToffNFalling, State.live_of_run run, State.when, due]

section
variable (s : State)

theorem State.torqueOff_act : s.torqueOff.act = { s.act with filtered := false, state := .forcedOff } := rfl

theorem State.torqueOff_ale : s.torqueOff.ale = s.ale.torqueOff := rfl

/-- The frames of a torque-off: torque 0 and OFF for each inverter (R146). -/
theorem State.torqueOff_liuOf :
    (∀ a : Axle, s.torqueOff.liuOf a.link = (s.liuOf a.link).putPeriodic
      { kind := 0x21, tag := 0
        payload := [0, 0, s.ptm.periodCount.setWidth 8,
          flagByte [true, false, false, (s.ale.published.flags.get a).slipCut, (s.ale.published.flags.get a).bound,
            (s.ale.published.flags.get a).envStale, (s.liuOf a.link).linkEvent]] }) ∧
    s.torqueOff.liuOf .vsc = s.liuOf .vsc ∧ s.torqueOff.liuOf .sbc = s.liuOf .sbc := by
  obtain ⟨commands, others⟩ := State.liuOf_sendCommands
    { s with act := { s.act with filtered := false, state := .forcedOff }, ale := s.ale.torqueOff }
  refine ⟨fun a => (commands a).trans ?_, others⟩
  rw [State.axleCommand_eq]
  cases a <;> rfl

end

/-- Settles O36. -/
theorem toffFallingForcesOff : Obligations.ToffFallingForcesOff := by
  refine ⟨fun u f => ⟨fun busy fresh => ?_, fun busy before g behind queue kind first => ?_,
    fun idle empty => Liu.putPeriodic_of_idle idle empty f⟩, ?_⟩
  · rw [Liu.putPeriodic_of_busy busy, placePeriodic_of_none fresh]
  · rw [Liu.putPeriodic_of_busy busy, queue, placePeriodic_of_first kind first]
  · intro s run low high held command
    obtain ⟨commands, others⟩ := s.torqueOff_liuOf
    exact ⟨s.torqueOff, exec_toffNFalling run (Act.filterDue_iff.2 ⟨low, high, held⟩), rfl, rfl, rfl, rfl, commands, others⟩

/-! ### The completion of a pass -/

theorem exec_passCompletion {s : State} (run : s.inReset = false) {x : Pass} (hx : s.ale.pass = some x) :
    exec .passCompletion s = .next (s.complete x) := by
  simp [exec, execPassCompletion, State.live_of_run run, hx]

theorem exec_passCompletion_none {s : State} (idle : s.ale.pass = none) : exec .passCompletion s = .next s := by
  simp [exec, execPassCompletion, State.live, idle]

section
variable (s : State)

/-- The STATUS_REPORT, byte by byte (R145). -/
theorem State.statusReport_eq : s.statusReport =
    { kind := 0x23, tag := 0
      payload := [BitVec.ofNat 8 s.act.state.code] ++ s.ale.published.figures ++
        [s.ale.published.mapResult.setByte, BitVec.ofNat 8 s.ale.published.mapResult.way.val,
         flagByte [s.ptm.skipped, s.ale.published.demandStale, s.image.inputClamped,
           Param.all.any fun r => (s.act.pendingOf r).isSome, decide (s.map.slot ≠ .empty),
           decide (s.ptm.mode = .synced), (s.liuOf .vsc).linkEvent],
         flagByte [(s.liuOf .vsc).faulted, (s.liuOf .fdi).faulted, (s.liuOf .rdi).faulted, (s.liuOf .sbc).faulted],
         s.ptm.periodCount.setWidth 8] } := by
  rw [← Act.anyPending_eq, ← SplitMap.pendingFlag_eq, ← SyncMode.flag_eq, ← Ptm.countByte_eq]
  rfl

/-- The status interval counter, the latches and the STATUS_REPORT (R141, R145). -/
theorem State.reportStatus_spec :
    let due := decide (s.act.active.val .statusInterval ≤ s.statusCount + 1)
    let t := s.reportStatus
    t.statusCount = (if due = true then 0 else s.statusCount + 1) ∧
    t.ptm = { s.ptm with skipped := s.ptm.skipped && !due } ∧
    t.image = { s.image with inputClamped := s.image.inputClamped && !due } ∧
    (∀ l, l ≠ .vsc → t.liuOf l = s.liuOf l) ∧
    (due = false → t.liuOf .vsc = s.liuOf .vsc) ∧
    (due = true → t.liuOf .vsc = (s.liuOf .vsc).putPeriodic s.statusReport) := by
  intro due t
  by_cases h : s.act.active.val .statusInterval ≤ s.statusCount + 1
  · have hd : due = true := decide_eq_true h
    have e : t = { (s.clearLatches).queuePeriodic .vsc s.statusReport with statusCount := 0 } := if_pos h
    rw [e, hd]
    refine ⟨rfl, ?_, ?_, fun l other => s.clearLatches.liuOf_modLiu_ne (fun u => u.putPeriodic _) other,
      (fun f => nomatch f), fun _ => rfl⟩
    · simp [State.clearLatches]
    · simp [State.clearLatches]
  · have hd : due = false := decide_eq_false h
    have e : t = { s with statusCount := s.statusCount + 1 } := if_neg h
    rw [e, hd]
    exact ⟨by simp, by simp, by simp, fun l other => rfl, fun _ => rfl, (fun f => nomatch f)⟩

theorem State.endRampdown_act : s.endRampdown.act = { s.act with state :=
    if s.act.state = .rampdown ∧ s.ale.published.torque = { front := 0, rear := 0 } then .standby else s.act.state } := by
  have zero : s.ale.published.torque = { front := 0, rear := 0 } ↔
      s.ale.published.torque.front = 0 ∧ s.ale.published.torque.rear = 0 := by
    cases s.ale.published.torque
    simp
  simp only [State.endRampdown, zero]
  split_ifs <;> rfl

variable (x : Pass)

theorem State.complete_ale : (s.complete x).ale =
    { carried := x.copy.carriedOut (s.forced x), published := x.copy.publish (s.forced x), pass := none } := by
  simp [State.complete, State.publish]

theorem State.complete_act : (s.complete x).act = { s.act with state :=
    if s.act.state = .rampdown ∧ (s.complete x).ale.published.torque = { front := 0, rear := 0 }
    then .standby else s.act.state } := by
  rw [State.complete_ale]
  simp only [State.complete, State.reportCompletion_act, State.endRampdown_act]
  rfl

/-- The state a completion's frames are built from: published, with RAMPDOWN ended (R29, R128). -/
def State.published (s : State) (x : Pass) : State := (s.publish x).endRampdown

theorem State.published_ale : (s.published x).ale = (s.complete x).ale := by
  simp [State.published, State.complete]

theorem State.published_act : (s.published x).act = (s.complete x).act := by
  simp [State.published, State.complete]

@[simp] theorem State.published_liuOf (l : Link) : (s.published x).liuOf l = s.liuOf l := by
  simp [State.published, State.liuOf]

@[simp] theorem State.published_ptm : (s.published x).ptm = s.ptm := by simp [State.published]

/-- The state before the STATUS_REPORT: the commands and the SLIP_REPORT are queued (R142). -/
def State.reported (s : State) (x : Pass) : State :=
  let u := ((s.published x).sendCommand .front).sendCommand .rear
  u.queuePeriodic .sbc (u.slipReport x.copy.latched)

theorem State.complete_eq_reportStatus : s.complete x = (s.reported x).reportStatus := by
  simp only [State.complete, State.reportCompletion, State.reported, State.published]

theorem State.reported_act : (s.reported x).act = (s.complete x).act := by simp [State.reported, State.published_act]

theorem State.reported_ale : (s.reported x).ale = (s.complete x).ale := by simp [State.reported, State.published_ale]

theorem State.reported_statusInterval :
    (s.reported x).act.active.val .statusInterval = s.act.active.val .statusInterval := by
  rw [State.reported_act, State.complete_act]

@[simp] theorem State.reported_ptm : (s.reported x).ptm = s.ptm := by simp [State.reported]

@[simp] theorem State.reported_image : (s.reported x).image = s.image := by simp [State.reported, State.published]

@[simp] theorem State.reported_map : (s.reported x).map = s.map := by simp [State.reported, State.published]

@[simp] theorem State.reported_statusCount : (s.reported x).statusCount = s.statusCount := by
  simp [State.reported, State.published]

theorem State.reported_liuOf :
    (∀ a : Axle, (s.reported x).liuOf a.link = (s.liuOf a.link).putPeriodic ((s.published x).axleCommand a)) ∧
    (s.reported x).liuOf .vsc = s.liuOf .vsc ∧
    (s.reported x).liuOf .sbc = (s.liuOf .sbc).putPeriodic ((s.published x).slipReport x.copy.latched) := by
  obtain ⟨commands, vsc, sbc⟩ := (s.published x).liuOf_sendCommands
  simp only [State.published_liuOf] at commands vsc sbc
  refine ⟨fun a => ?_, ?_, ?_⟩
  · rw [← commands a]
    cases a <;> rfl
  · rw [← vsc]
    rfl
  · rw [← s.published_liuOf x .sbc]
    rfl

theorem State.reported_faulted (l : Link) : ((s.reported x).liuOf l).faulted = (s.liuOf l).faulted := by
  obtain ⟨commands, vsc, sbc⟩ := s.reported_liuOf x
  cases l with
  | vsc => rw [vsc]
  | fdi => exact (congrArg Liu.faulted (commands .front)).trans (Liu.putPeriodic_faulted _ _)
  | rdi => exact (congrArg Liu.faulted (commands .rear)).trans (Liu.putPeriodic_faulted _ _)
  | sbc => rw [sbc, Liu.putPeriodic_faulted]

/-- The status interval counter, the latches and the report of a completion (R141, R145). -/
theorem State.complete_status :
    let due := decide (s.act.active.val .statusInterval ≤ s.statusCount + 1)
    let t := s.complete x
    t.statusCount = (if due = true then 0 else s.statusCount + 1) ∧
    t.ptm = { s.ptm with skipped := s.ptm.skipped && !due } ∧
    t.image = { s.image with inputClamped := s.image.inputClamped && !due } ∧
    (∀ l, l ≠ .vsc → t.liuOf l = (s.reported x).liuOf l) ∧
    (due = false → t.liuOf .vsc = s.liuOf .vsc) ∧
    (due = true → t.liuOf .vsc = (s.liuOf .vsc).putPeriodic (s.reported x).statusReport) := by
  have spec := (s.reported x).reportStatus_spec
  rw [← State.complete_eq_reportStatus, State.reported_statusInterval, State.reported_statusCount, State.reported_ptm,
    State.reported_image, (s.reported_liuOf x).2.1] at spec
  exact spec

theorem State.complete_frame : s.complete x = { s with
    ale := (s.complete x).ale, act := (s.complete x).act, liu := (s.complete x).liu
    statusCount := (s.complete x).statusCount, ptm := (s.complete x).ptm, image := (s.complete x).image } := by
  calc s.complete x = { s.complete x with pins := (s.complete x).pins } := rfl
    _ = _ := by simp only [State.complete_pins, State.complete_inReset, State.complete_timeBase, State.complete_subClock,
      State.complete_asu, State.complete_map, State.complete_limits, State.complete_pointer, State.complete_freeIndex,
      State.complete_pending]

theorem State.complete_axleCommand (a : Axle) :
    (s.complete x).liuOf a.link = (s.liuOf a.link).putPeriodic ((s.published x).axleCommand a) := by
  rw [← (s.reported_liuOf x).1 a]
  exact (s.complete_status x).2.2.2.1 a.link (by cases a <;> simp [Axle.link])

/-- Forced, a completion publishes zeros, last signs NONE and no hold (R28). -/
theorem PassCopy.forced_spec (p : PassCopy) (a : Axle) :
    (p.publish true).torque.get a = 0 ∧ ((p.publish true).flags.get a).hold = false ∧
      ((p.carriedOut true).axle.get a).lastSign = .none ∧ ((p.carriedOut true).axle.get a).holdActive = false := by
  cases a <;> exact ⟨rfl, rfl, rfl, rfl⟩

theorem speedByte_eq (latched : PerAxle Latched) : speedByte latched =
    BitVec.ofNat 8 (latched.front.state.code + 4 * latched.front.health.code + 16 * latched.rear.state.code +
      64 * latched.rear.health.code) := rfl

/-- The SLIP_REPORT of a completion, byte by byte (R144). -/
theorem State.published_slipReport : (s.published x).slipReport x.copy.latched =
    let q := (s.complete x).ale.published
    { kind := 0x22, tag := 0
      payload := int2 q.slip.front ++ int2 q.slip.rear ++ int2 q.torque.front ++ int2 q.torque.rear ++
        [speedByte x.copy.latched, flagByte [q.noRef, q.refStale, (s.liuOf .sbc).linkEvent],
         s.ptm.periodCount.setWidth 8] } := by
  simp [State.slipReport, State.published_ale, Ptm.countByte_eq, Frame.slipReportCode]

/-- The STATUS_REPORT of a completion, byte by byte (R145). -/
theorem State.reported_statusReport : (s.reported x).statusReport =
    let q := (s.complete x).ale.published
    { kind := 0x23, tag := 0
      payload := [BitVec.ofNat 8 (s.complete x).act.state.code] ++ q.figures ++
        [q.mapResult.setByte, BitVec.ofNat 8 q.mapResult.way.val,
         flagByte [s.ptm.skipped, q.demandStale, s.image.inputClamped,
           Param.all.any fun r => (s.act.pendingOf r).isSome, decide (s.map.slot ≠ .empty),
           decide (s.ptm.mode = .synced), (s.liuOf .vsc).linkEvent],
         flagByte [(s.liuOf .vsc).faulted, (s.liuOf .fdi).faulted, (s.liuOf .rdi).faulted, (s.liuOf .sbc).faulted],
         s.ptm.periodCount.setWidth 8] } := by
  have pending (r : Param) : (s.complete x).act.pendingOf r = s.act.pendingOf r := by
    rw [State.complete_act]
    rfl
  rw [State.statusReport_eq]
  simp only [State.reported_ale, State.reported_act, State.reported_ptm, State.reported_image, State.reported_map,
    State.reported_faulted, (s.reported_liuOf x).2.1, pending]

end

theorem State.forced_eq (s : State) (x : Pass) : s.forced x = decide (x.copy.allocState = .standby ∨
    x.copy.allocState = .forcedOff ∨ s.act.state = .forcedOff ∨ x.toffTaken = true) := by
  simp [State.forced, Bool.or_assoc]

/-- Settles O47. -/
theorem completionPublishesAndReports : Obligations.CompletionPublishesAndReports := by
  intro s x run hx forced due
  have ale := s.complete_ale x
  have hforced : s.forced x = forced := s.forced_eq x
  obtain ⟨statusCount, ptm, image, others, quiet, report⟩ := s.complete_status x
  refine ⟨s.complete x, exec_passCompletion run hx, s.complete_frame x, by rw [ale, hforced], by rw [ale]; rfl,
    by rw [ale]; rfl, by rw [ale]; rfl, fun acts a => ?_, s.complete_act x, statusCount, ptm, image, fun a => ?_, ?_⟩
  · rw [ale, hforced, acts]
    exact x.copy.forced_spec a
  · rw [s.complete_axleCommand x a, State.axleCommand_eq, State.published_ale, State.published_act,
      State.published_liuOf, State.published_ptm]
  · intro q two speed health alloc axles slipReport statusReport
    have htwo (v : Int) : int2 v = two v := int2_eq v
    have hspeed (y : SpeedState) : y.code = speed y := by cases y <;> rfl
    have hhealth (y : Health) : y.code = health y := by cases y <;> rfl
    have halloc (y : AllocState) : y.code = alloc y := by cases y <;> rfl
    have hslip : (s.published x).slipReport x.copy.latched = slipReport := by
      rw [State.published_slipReport, speedByte_eq]
      simp only [htwo, hspeed, hhealth]
      rfl
    have hstatus : (s.reported x).statusReport = statusReport := by
      rw [State.reported_statusReport]
      simp only [Published.figures, nat2_eq_int2, htwo, halloc]
      rfl
    rw [← hslip, ← hstatus]
    refine ⟨?_, ?_, ?_, quiet, report, ?_, ?_⟩
    · rw [others .sbc (by simp), (s.reported_liuOf x).2.2]
    · rw [State.published_slipReport]
      rfl
    · rw [State.published_slipReport]
      exact flagByte_getLsbD _ (by decide)
    · rw [State.reported_statusReport]
      rfl
    · rw [State.reported_statusReport]
      exact flagByte_getLsbD _ (by decide)

/-- A forced completion's AXLE_COMMAND, and that of a falling, read as torque 0 and OFF (R143). -/
theorem State.axleCommand_of_off {s : State} {a : Axle} (off : s.act.state = .forcedOff)
    (zero : s.ale.published.torque.get a = 0) :
    (s.axleCommand a).kind = 0x21 ∧ (s.axleCommand a).payload.take 2 = [0, 0] ∧
      ((s.axleCommand a).payload.getD 3 0).getLsbD 0 = true := by
  rw [State.axleCommand_eq, zero, off]
  exact ⟨rfl, rfl, flagByte_getLsbD _ (by decide)⟩

/-- Settles O54. -/
theorem torqueOffAndCompletionEndInZero : Obligations.TorqueOffAndCompletionEndInZero := by
  intro s x run hx low high held order mem
  have due : s.act.filterDue false = true := Act.filterDue_iff.2 ⟨low, high, held⟩
  simp only [List.mem_cons, List.not_mem_nil, or_false] at mem
  rcases mem with rfl | rfl
  · have marked : s.torqueOff.ale.pass = some { x with toffTaken := true } := by
      simp [State.torqueOff_ale, Ale.torqueOff, hx]
    have forced : s.torqueOff.forced { x with toffTaken := true } = true := by simp [State.forced]
    have act : (s.torqueOff.complete { x with toffTaken := true }).act = s.torqueOff.act := by
      rw [State.complete_act]
      simp [State.torqueOff_act]
    have ale := s.torqueOff.complete_ale { x with toffTaken := true }
    rw [forced] at ale
    refine ⟨s.torqueOff, _, exec_toffNFalling run due, exec_passCompletion (s := s.torqueOff) run marked,
      by rw [act]; rfl, by rw [ale], fun a => ?_⟩
    obtain ⟨torque, hold, last, active⟩ := x.copy.forced_spec a
    rw [ale]
    refine ⟨torque, hold, last, active, _, State.complete_axleCommand _ _ a, State.axleCommand_of_off ?_ ?_⟩
    · rw [State.published_act, act]
      rfl
    · rw [State.published_ale, ale]
      exact torque
  · have due' : (s.complete x).act.filterDue false = true := by
      rw [State.complete_act]
      exact due
    have run' : (s.complete x).inReset = false := by simpa using run
    have idle : (s.complete x).torqueOff.ale.pass = none := by simp [State.torqueOff_ale, Ale.torqueOff, State.complete_ale]
    refine ⟨s.complete x, _, exec_passCompletion run hx, exec_toffNFalling run' due', rfl, idle, fun a => ?_⟩
    obtain ⟨commands, -⟩ := (s.complete x).torqueOff_liuOf
    refine ⟨?_, ?_, ?_, ?_, _, commands a, rfl, rfl, flagByte_getLsbD _ (by decide)⟩
    all_goals cases a <;> rfl

end Sys2Proof.Machine
end

section
/-! SUPPORT. The Request Engine as a whole: the owner of each kind, what an owner can change, and the one event in
which a frame is handled (R152 to R159). -/

namespace Sys2Proof

/-- The owner that judges the frames of a kind (R152, R158). -/
def Kind.owner : Kind → Machine.Owner
  | .demand        => Machine.takeDemand
  | .envelope      => Machine.takeEnvelope
  | .reference     => Machine.takeReference
  | .limitPost     => Machine.postLimit
  | .limitWithdraw => Machine.withdrawLimit
  | .limitList     => Machine.listLimit
  | .mapStage      => Machine.stageEntry
  | .mapCommit     => Machine.commitEntry
  | .mapFlush      => Machine.flushMap
  | .mapRead       => Machine.readEntry
  | .mapProbe      => Machine.probeMap
  | .configWrite   => Machine.writeConfig
  | .configRead    => Machine.readConfig
  | .allocEnable   => Machine.enableAlloc
  | .allocDisable  => Machine.disableAlloc
  | .statusQuery   => Machine.queryStatus

namespace Machine

/-- The command of a kind serves a frame of that kind by its owner. -/
theorem exec_command (k : Kind) (s : State) : exec k.command s = serve k k.owner s := by cases k <;> rfl

/-! ### What an owner can change -/

/-- What an owner can change on a command, each block that it changes kept sound; only ALLOC_ENABLE leads to RUN
(R5, R126, R127, R158). -/
inductive State.Changes (s : State) : Instr → State → Prop
  | nothing (c : Instr) : s.Changes c s
  | image {i : Image} (c : Instr) (ok : s.image.Ok → i.Ok) : s.Changes c { s with image := i }
  | limits {table : List Limit} (c : Instr) (ok : LimitsOk s.limits → LimitsOk table) : s.Changes c { s with limits := table }
  | map {m : SplitMap} (c : Instr) (ok : s.map.Ok → m.Ok) : s.Changes c { s with map := m }
  | config {x : Act} {y : PerAxle Asu} (c : Instr) (ok : s.act.InRange → x.InRange) (state : x.state = s.act.state)
      (filter : x.filtered = s.act.filtered ∧ x.pinLevel = s.act.pinLevel ∧ x.held = s.act.held)
      (disarms : ∀ a, ∃ b, y.get a = { s.asu.get a with armed := b }) : s.Changes c { s with act := x, asu := y }
  | enable (high : s.act.filtered = true) : s.Changes .allocEnable (s.setAlloc .run)
  | disable : s.Changes .allocDisable (s.setAlloc s.act.state.disabled)

/-- An owner's judgment: a change it may make, and an answer that fits a RESPONSE (R158, R159). -/
def State.Judges (s : State) (c : Instr) (r : State × Option Answer) : Prop :=
  s.Changes c r.1 ∧ ∀ a, r.2 = some a → a.data.length ≤ 14

section
variable {s : State} {c : Instr} {r : State × Option Answer}

theorem State.Judges.of_eq {t : State} {o : Option Answer} (e : r = (t, o)) (changes : s.Changes c t)
    (short : ∀ a, o = some a → a.data.length ≤ 14) : s.Judges c r := by
  subst e
  exact ⟨changes, short⟩

/-- An owner that answers, and how long its answer is. -/
theorem State.Judges.answering {t : State} {a : Answer} (e : r = (t, some a)) (changes : s.Changes c t)
    (short : a.data.length ≤ 14) : s.Judges c r :=
  .of_eq e changes fun _ h => Option.some.inj h ▸ short

theorem State.Judges.refusing {st : Status} (e : r = (s, some (bare st))) : s.Judges c r :=
  .answering e (.nothing c) (Nat.zero_le _)

theorem State.TakesImage.judges (h : s.TakesImage r) (c : Instr) : s.Judges c r := by
  obtain ⟨st, e⟩ | ⟨i, e, ok⟩ := h
  · exact .refusing e
  · exact .of_eq e (.image c ok) fun a h => nomatch h

end

section
variable (l : Link) (p : List Byte) (s : State)

theorem postLimit_judges (c : Instr) : s.Judges c (postLimit l p s) := by
  obtain ⟨st, e⟩ | ⟨r, a, e, hr, short, room⟩ := postLimit_cases l p s
  · exact .refusing e
  · exact .answering e (.limits c fun h => h.placeLimit hr room) short

theorem withdrawLimit_judges (c : Instr) : s.Judges c (withdrawLimit l p s) := by
  by_cases tag : 15 < u8 p 0
  · exact .refusing (withdrawLimit_of_bad_tag tag s)
  · by_cases present : ∃ r ∈ s.limits, r.owner = l ∧ r.tag = u8 p 0
    · exact .answering (withdrawLimit_of_present (by omega) present) (.limits c fun h => h.sublist List.filter_sublist)
        (by simp [byte1])
    · exact .refusing (withdrawLimit_of_absent (by omega) fun r hr same => present ⟨r, hr, same⟩)

theorem listLimit_judges (c : Instr) : s.Judges c (listLimit l p s) := by
  cases found : s.limits[u8 p 0]? with
  | none => exact .answering (listLimit_of_length_le (List.getElem?_eq_none_iff.1 found)) (.nothing c) (by simp)
  | some r => exact .answering (listLimit_of_record found) (.nothing c) (by simp)

theorem stageEntry_judges (c : Instr) : s.Judges c (stageEntry l p s) := by
  unfold stageEntry
  split
  · refine .answering rfl (.map c fun h => ?_) (Nat.zero_le _)
    obtain ⟨sets, -, slot⟩ := h
    have := u8_lt p 6
    exact ⟨sets, ⟨min_le_right _ _, min_le_right _ _, by dsimp only; omega, min_le_right _ _⟩, slot⟩
  · exact .refusing rfl

theorem commitEntry_judges (c : Instr) : s.Judges c (commitEntry l p s) := by
  by_cases fits : u8 p 2 + (u8 p 0 * 16 + u8 p 1) % 256 = 255
  · cases hn : setOfByte (u8 p 0) with
    | none => exact .refusing (st := .badField) (by simp [commitEntry, complementFits_iff.2 fits, hn])
    | some n =>
      cases hc : wayChoiceOf (u8 p 1) with
      | none => exact .refusing (st := .badField) (by simp [commitEntry, complementFits_iff.2 fits, hn, hc])
      | some choice =>
        cases staged : s.map.staged with
        | false => exact .refusing (commitEntry_of_not_staged fits hn hc l s staged)
        | true =>
          by_cases slot : s.map.slot = .empty
          · exact .answering (commitEntry_of_empty fits hn hc l s staged slot)
              (.map c fun ⟨sets, stage, _⟩ => ⟨sets, stage, stage⟩) (Nat.zero_le _)
          · exact .refusing (commitEntry_of_occupied fits hn hc l s staged slot)
  · exact .answering (commitEntry_of_misfit fits l s) (.map c fun h => h) (Nat.zero_le _)

theorem flushMap_judges (c : Instr) : s.Judges c (flushMap l p s) := by
  by_cases slot : s.map.slot = .empty
  · exact .answering (flushMap_of_empty slot l p) (.map c fun ⟨sets, stage, _⟩ => ⟨sets, stage, trivial⟩) (Nat.zero_le _)
  · exact .refusing (flushMap_of_occupied slot l p)

theorem readEntry_judges (c : Instr) : s.Judges c (readEntry l p s) := by
  unfold readEntry
  split
  · exact .answering rfl (.nothing c) (by simp [byte1, EntryKey.bytes_eq, Policy.bytes_eq])
  · exact .refusing rfl

theorem probeMap_judges (c : Instr) : s.Judges c (probeMap l p s) := by
  unfold probeMap
  split
  · dsimp only
    split
    · exact .answering rfl (.nothing c) (by simp [byte1, Policy.bytes_eq])
    · exact .answering rfl (.nothing c) (by simp [byte1, Policy.bytes_eq])
  · exact .refusing rfl

theorem writeConfig_judges (c : Instr) : s.Judges c (writeConfig l p s) := by
  by_cases bad : 22 < u8 p 0
  · exact .refusing (writeConfig_of_bad_index l s bad)
  · obtain ⟨q, hq⟩ := Param.exists_index ⟨u8 p 0, by omega⟩
    have index : q.index.val = u8 p 0 := congrArg Fin.val hq
    have stored := q.stored_mem (u16 p 1)
    by_cases standby : s.act.state = .standby
    · refine .answering (writeConfig_of_standby l s index standby) (.config c (fun h => ?_) rfl ⟨rfl, rfl, rfl⟩
        fun a => ⟨_, disarm_get _ _ _ a⟩) (by simp [Param.storedBytes])
      exact (h.putPending (o := none) (by simp)).putActive stored
    · refine .answering (writeConfig_of_other l s index standby) (.config c (fun h => ?_) rfl ⟨rfl, rfl, rfl⟩
        fun a => ⟨_, rfl⟩) (by simp [Param.storedBytes])
      exact h.putPending fun v e => Option.some.inj e ▸ stored

theorem readConfig_judges (c : Instr) : s.Judges c (readConfig l p s) := by
  by_cases bad : 22 < u8 p 0
  · exact .refusing (readConfig_of_bad_index bad l s)
  · obtain ⟨q, hq⟩ := Param.exists_index ⟨u8 p 0, by omega⟩
    exact .answering (readConfig_of_index (congrArg Fin.val hq) l s) (.nothing c) (by simp)

theorem enableAlloc_judges : s.Judges .allocEnable (enableAlloc l p s) := by
  cases high : s.act.filtered with
  | true => exact .answering (enableAlloc_of_high high l p) (.enable high) (by simp)
  | false => exact .answering (enableAlloc_of_low high l p) (.nothing _) (by simp)

theorem disableAlloc_judges : s.Judges .allocDisable (disableAlloc l p s) :=
  .answering (disableAlloc_eq l p s) .disable (by simp)

theorem queryStatus_judges (c : Instr) : s.Judges c (queryStatus l p s) :=
  .answering (queryStatus_eq l p s) (.nothing c) (by simp [byte1, Published.figures_eq])

/-- Every owner keeps to its block and answers in 14 bytes (R158, R159). -/
theorem owner_judges (k : Kind) : s.Judges k.command (k.owner l p s) := by
  cases k with
  | demand => exact (takeDemand_cases l p s).judges _
  | envelope => exact (takeEnvelope_cases l p s).judges _
  | reference => exact (takeReference_cases l p s).judges _
  | limitPost => exact postLimit_judges l p s _
  | limitWithdraw => exact withdrawLimit_judges l p s _
  | limitList => exact listLimit_judges l p s _
  | mapStage => exact stageEntry_judges l p s _
  | mapCommit => exact commitEntry_judges l p s _
  | mapFlush => exact flushMap_judges l p s _
  | mapRead => exact readEntry_judges l p s _
  | mapProbe => exact probeMap_judges l p s _
  | configWrite => exact writeConfig_judges l p s _
  | configRead => exact readConfig_judges l p s _
  | allocEnable => exact enableAlloc_judges l p s
  | allocDisable => exact disableAlloc_judges l p s
  | statusQuery => exact queryStatus_judges l p s _

theorem judge_judges (k : Kind) (f : Frame) : s.Judges k.command (judge k k.owner l f s) := by
  unfold judge
  split
  · exact .refusing rfl
  · split
    · exact .refusing rfl
    · exact owner_judges l f.payload s k

end

/-- What no owner touches (R5). -/
theorem State.Changes.frame {s t : State} {c : Instr} (h : s.Changes c t) :
    t.liu = s.liu ∧ t.pointer = s.pointer ∧ t.ale = s.ale ∧ t.ptm = s.ptm ∧ t.timeBase = s.timeBase ∧
    t.subClock = s.subClock ∧ t.statusCount = s.statusCount ∧ t.pins = s.pins ∧ t.pending = s.pending ∧
    t.inReset = s.inReset ∧ ∀ a, { t.asuOf a with armed := (s.asuOf a).armed } = s.asuOf a := by
  cases h with
  | config c ok state filter disarms =>
    refine ⟨rfl, rfl, rfl, rfl, rfl, rfl, rfl, rfl, rfl, rfl, fun a => ?_⟩
    obtain ⟨b, e⟩ := disarms a
    simp [State.asuOf, e]
  | _ => exact ⟨rfl, rfl, rfl, rfl, rfl, rfl, rfl, rfl, rfl, rfl, fun a => rfl⟩

/-! ### BAD_KIND_FRAME -/

theorem exec_badKindFrame_of_served {s : State} {l : Link} {f : Frame} (h : s.Serves l f) (unknown : Kind.ofCode f.kind = none) :
    exec .badKindFrame s = .next (s.answered l f .badKind []) := by
  obtain ⟨run, served⟩ := h
  simp [exec, execBadKindFrame, State.live_of_run run, served, unknown, State.answered, bare]

theorem exec_badKindFrame_of_known {s : State} (h : ∀ l f, s.served = some (l, f) → ∃ k : Kind, f.kind = k.code) :
    exec .badKindFrame s = .next s := by
  cases run : s.inReset with
  | true => exact congrArg _ (State.live_of_reset run _)
  | false =>
    cases served : s.served with
    | none => simp [exec, execBadKindFrame, State.live_of_run run, served]
    | some x =>
      obtain ⟨l, f⟩ := x
      obtain ⟨k, hk⟩ := h l f served
      simp [exec, execBadKindFrame, State.live_of_run run, served, hk]

theorem ofCode_eq_none_iff {f : Frame} : Kind.ofCode f.kind = none ↔ ∀ k : Kind, f.kind ≠ k.code := by
  rw [Option.eq_none_iff_forall_ne_some]
  exact forall_congr' fun k => not_congr Kind.ofCode_eq_some

/-- The event of a frame: an owner's judgment of the state without it, and at most one answer (R154, R158). -/
theorem exec_of_served {s : State} {l : Link} {f : Frame} (h : s.Serves l f) :
    ∃ t o, exec f.command s = .next (t.answer l f o) ∧ (s.dequeue l).Changes f.command t ∧
      ∀ a, o = some a → a.data.length ≤ 14 := by
  cases known : Kind.ofCode f.kind with
  | none =>
    have command : f.command = .badKindFrame := by simp [Frame.command, known]
    rw [command]
    refine ⟨s.dequeue l, some (bare .badKind), exec_badKindFrame_of_served h known, .nothing _, fun a e => ?_⟩
    obtain rfl := Option.some.inj e
    exact Nat.zero_le _
  | some k =>
    have command : f.command = k.command := by simp [Frame.command, known]
    obtain ⟨changes, short⟩ := judge_judges l (s.dequeue l) k f
    rw [command, exec_command]
    exact ⟨_, _, serve_of_kind h (Kind.ofCode_eq_some.1 known), changes, short⟩

/-- Settles O15. -/
theorem frameServedOnce : Obligations.FrameServedOnce := by
  intro s l f h
  obtain ⟨u, o, e, changes, short⟩ := exec_of_served h
  obtain ⟨liu, pointer, ale, ptm, timeBase, subClock, statusCount, pins, -, -, sensors⟩ := changes.frame
  have links (m : Link) : u.liuOf m = (s.dequeue l).liuOf m := congrArg (fun p => p.get m) liu
  refine ⟨u.answer l f o, e, ?_, fun m other => ?_, ?_, by simp [ale], by simp [ptm], by simp [timeBase],
    by simp [subClock], by simp [statusCount], by simp [pins], fun a => ?_⟩
  · rw [State.answer_pointer, pointer, State.dequeue_pointer]
    cases l <;> rfl
  · rw [State.liuOf_answer_ne u f o other, links, State.liuOf_dequeue_ne s other]
  · cases o with
    | none => exact .inl (by rw [State.answer_none, links, State.liuOf_dequeue_same])
    | some a =>
      have length := short a rfl
      refine .inr ⟨response f a, ?_, rfl, rfl, rfl, by simp [response], by simp [response]; omega⟩
      rw [State.liuOf_answer_some, links, State.liuOf_dequeue_same]
  · have same : (u.answer l f o).asuOf a = u.asuOf a := by simp [State.asuOf]
    rw [same]
    exact sensors a

/-- Settles O16. -/
theorem requestEngineChecks : Obligations.RequestEngineChecks := by
  refine ⟨by decide, fun s l f h => ⟨fun unknown => ?_, fun k kind => ⟨fun permitted => ?_, fun permitted length => ?_⟩⟩⟩
  · exact exec_badKindFrame_of_served h (ofCode_eq_none_iff.2 fun k => unknown k k.mem_all)
  · rw [exec_command]
    exact serve_not_permitted h kind permitted
  · rw [exec_command]
    exact serve_bad_length h kind permitted length

end Machine
end Sys2Proof
end

section
/-! SUPPORT. What one command can do to the state: the one case distinction over the commands, from which the
invariants follow block by block. -/

namespace Sys2Proof.Machine

/-! ### Commands that do not occur -/

/-- While a reset stands only RESET and RESET_END are taken (log 6). -/
theorem exec_of_inReset {s : State} (held : s.inReset = true) {c : Instr} (notReset : c ≠ .reset)
    (notEnd : c ≠ .resetEnd) : exec c s = .next s := by
  cases c with
  | reset => exact absurd rfl notReset
  | resetEnd => exact absurd rfl notEnd
  | _ => exact congrArg _ (State.live_of_reset held _)

theorem exec_resetEnd_of_run {s : State} (run : s.inReset = false) : exec .resetEnd s = .next s := by
  simp [exec, execResetEnd, run]

/-- A command that a running part and a part in reset both pass by changes nothing. -/
theorem exec_of_absent {s : State} {c : Instr} (notReset : c ≠ .reset) (notEnd : c ≠ .resetEnd)
    (absent : s.inReset = false → exec c s = .next s) : exec c s = .next s := by
  cases run : s.inReset with
  | true => exact exec_of_inReset run notReset notEnd
  | false => exact absent run

theorem exec_oneShotExpiry_absent {s : State} (h : s.ptm.oneShot ≠ some s.timeBase) : exec .oneShotExpiry s = .next s :=
  exec_of_absent (by simp) (by simp) fun run => by simp [exec, execOneShotExpiry, State.live_of_run run, State.when, h]

theorem exec_internalTimerExpiry_absent {s : State} (h : s.ptm.timer ≠ some s.timeBase) :
    exec .internalTimerExpiry s = .next s :=
  exec_of_absent (by simp) (by simp) fun run => by
    simp [exec, execInternalTimerExpiry, State.live_of_run run, State.when, h]

theorem exec_toffNPinChange {s : State} (run : s.inReset = false) {high : Bool} (h : s.act.pinLevel ≠ high) :
    exec (.toffNPinChange high) s = .next
      { s with act := { s.act with pinLevel := high, held := 0 }, pins := { s.pins with toffN := high } } := by
  simp [exec, execToffNPinChange, State.live_of_run run, State.when, h]

theorem exec_toffNPinChange_absent {s : State} {high : Bool} (h : s.act.pinLevel = high) :
    exec (.toffNPinChange high) s = .next s :=
  exec_of_absent (by simp) (by simp) fun run => by
    simp [exec, execToffNPinChange, State.live_of_run run, State.when, h]

theorem exec_toffNRising {s : State} (run : s.inReset = false) (due : s.act.filterDue true = true) :
    exec .toffNRising s = .next { s with act := { s.act with filtered := true } } := by
  simp [exec, execToffNRising, State.live_of_run run, State.when, due]

theorem exec_toffNRising_absent {s : State} (h : s.act.filterDue true = false) : exec .toffNRising s = .next s :=
  exec_of_absent (by simp) (by simp) fun run => by simp [exec, execToffNRising, State.live_of_run run, h]

theorem exec_toffNFalling_absent {s : State} (h : s.act.filterDue false = false) : exec .toffNFalling s = .next s :=
  exec_of_absent (by simp) (by simp) fun run => by simp [exec, execToffNFalling, State.live_of_run run, h]

/-- An event whose condition does not hold, on its link or axle. -/
theorem exec_gapExpiry_absent {s : State} {l : Link} (h : (s.liuOf l).gapDone = false) : exec (.gapExpiry l) s = .next s :=
  exec_of_absent (by simp) (by simp) fun run => by rw [exec_gapExpiry run, h, State.when_false]

theorem exec_frameTransmitEnd_absent {s : State} {l : Link} (h : (s.liuOf l).tx.frameDone = false) :
    exec (.frameTransmitEnd l) s = .next s :=
  exec_of_absent (by simp) (by simp) fun run => by rw [exec_frameTransmitEnd run, h, State.when_false]

theorem exec_resetBreakEnd_absent {s : State} {l : Link} (h : (s.liuOf l).tx.breakDone = false) :
    exec (.resetBreakEnd l) s = .next s :=
  exec_of_absent (by simp) (by simp) fun run => by rw [exec_resetBreakEnd run, h, State.when_false]

theorem exec_edgeHistoryExpiry_absent {s : State} {a : Axle} (h : (s.asuOf a).historyExpired s.timeBase = false) :
    exec (.edgeHistoryExpiry a) s = .next s :=
  exec_of_absent (by simp) (by simp) fun run => by rw [exec_edgeHistoryExpiry run, h, State.when_false]

/-- Settles O4. -/
theorem commandsThatDoNotOccur : Obligations.CommandsThatDoNotOccur := by
  intro s
  refine ⟨fun c held => exec_of_inReset held, exec_resetEnd_of_run, exec_oneShotExpiry_absent,
    exec_internalTimerExpiry_absent, exec_passCompletion_none, fun h => exec_toffNPinChange_absent,
    fun h => exec_toffNFalling_absent ?_, fun h => exec_toffNRising_absent ?_, fun a h => exec_edgeHistoryExpiry_absent ?_,
    fun l h => exec_gapExpiry_absent ?_, fun l h => exec_frameTransmitEnd_absent ?_, fun l h => exec_resetBreakEnd_absent ?_,
    fun k h => ?_, exec_badKindFrame_of_known⟩
  · rw [← Bool.not_eq_true, Act.filterDue_iff]
    rintro ⟨low, high, held⟩
    rcases h with h | h | h
    · simp [h] at low
    · simp [h] at high
    · omega
  · rw [← Bool.not_eq_true, Act.filterDue_iff]
    rintro ⟨high, low, held⟩
    rcases h with h | h | h
    · simp [h] at high
    · simp [h] at low
    · omega
  · rw [← Bool.not_eq_true, Asu.historyExpired_iff]
    rintro ⟨e, es, he, old⟩
    exact absurd (h e es he) (Nat.not_lt.2 old)
  · rw [← Bool.not_eq_true, Liu.gapDone_iff]
    rintro ⟨framer, n, gap, long⟩
    rcases h with h | h
    · exact h framer
    · exact absurd (h n gap) (Nat.not_lt.2 long)
  · rw [← Bool.not_eq_true, Transmitter.frameDone_iff]
    rintro ⟨f, n, sending, full⟩
    exact absurd (h f n sending) (Nat.not_lt.2 full)
  · rw [← Bool.not_eq_true, Transmitter.breakDone_iff]
    rintro ⟨n, sending, full⟩
    exact absurd (h n sending) (Nat.not_lt.2 full)
  · rw [exec_command]
    exact serve_other h

/-! ### What a command does -/

/-- The state a reset leaves: every block at its reset values; the queue, the free-value counter and the other pins
stand (log 18). -/
def State.afterReset (s : State) : State :=
  { State.reset with pins := { s.pins with resetN := false }, freeIndex := s.freeIndex, pending := s.pending }

/-- What a command does, by the block it moves. Each block that it sets to a value not written out is kept
sound. -/
inductive State.Does (s : State) : Instr → State → Prop
  | nothing (c : Instr) : s.Does c s
  | reset : s.Does .reset s.afterReset
  | resetEnd (held : s.inReset = true) :
      s.Does .resetEnd (State.takeLevels { s with inReset := false, pins := { s.pins with resetN := true } })
  | link (c : Instr) (l : Link) (g : Liu → Liu) (ok : (s.liuOf l).Ok l → (g (s.liuOf l)).Ok l) : s.Does c (s.modLiu l g)
  | sensor {u : Asu} {q : PerAxle SensorPins} (c : Instr) (a : Axle) (ok : (s.asuOf a).Ok → u.Ok) :
      s.Does c { s with asu := s.asu.set a u, pins := { s.pins with sensor := q } }
  | pin (high : Bool) : s.Does (.toffNPinChange high)
      { s with act := { s.act with pinLevel := high, held := 0 }, pins := { s.pins with toffN := high } }
  | rising : s.Does .toffNRising { s with act := { s.act with filtered := true } }
  | falling : s.Does .toffNFalling s.torqueOff
  | timer {p : Ptm} {up : Bool} (c : Instr) (ok : s.ptm.Ok → p.Ok) :
      s.Does c { s with ptm := p, pins := { s.pins with syncIn := up } }
  | boundary {p : Ptm} {up : Bool} (c : Instr) (ok : s.ptm.Ok → p.Ok) (idle : s.ale.pass = none) (time : Time) :
      s.Does c (State.takeBoundary { s with ptm := p, pins := { s.pins with syncIn := up } } time)
  | complete {x : Pass} (flight : s.ale.pass = some x) : s.Does .passCompletion (s.complete x)
  | served {l : Link} {f : Frame} {t : State} (c : Instr) (o : Option Answer) (served : s.served = some (l, f))
      (changes : (s.dequeue l).Changes c t) : s.Does c (t.answer l f o)

section
variable {s : State}

/-- A boundary at the take gate, taken or skipped (R118). -/
theorem State.Does.gate {p : Ptm} (c : Instr) (up : Bool) (ok : s.ptm.Ok → p.Ok) (time : Time) :
    s.Does c (State.boundary { s with ptm := p, pins := { s.pins with syncIn := up } } time) := by
  by_cases idle : s.ale.pass = none
  · rw [State.boundary_of_idle (s := { s with pins := { s.pins with syncIn := up } }) idle]
    exact .boundary c ok idle time
  · rw [State.boundary_of_busy (s := { s with pins := { s.pins with syncIn := up } }) idle]
    exact .timer c fun h => (ok h).skip time

theorem exec_syncInEdge_does (run : s.inReset = false) (up : Bool) :
    ∃ t, exec (.syncInEdge up) s = .next t ∧ s.Does (.syncInEdge up) t := by
  refine ⟨_, exec_syncInEdge run up, ?_⟩
  have ok (h : s.ptm.Ok) := (h.setLevel up).countEdge s.timeBase (s.act.active.val .syncTimeout)
  split_ifs
  · rcases Nat.lt_or_ge (s.ptm.dividerCount + 1) s.ptm.divider with between | done
    · rw [State.qualifiedEdge_of_between (s := s.withSyncLevel up) between]
      exact .timer _ ok
    · cases mode : s.ptm.mode with
      | synced =>
        rw [State.qualifiedEdge_of_synced (s := s.withSyncLevel up) done mode]
        exact .gate _ up ok _
      | internal =>
        rw [State.qualifiedEdge_of_internal (s := s.withSyncLevel up) done mode]
        split_ifs
        · exact .gate _ up (fun h => (ok h).reacquired (Option.some_ne_none _)) _
        · exact .timer _ ok
  · exact .timer _ fun h => h.setLevel up

theorem exec_oneShotExpiry_does (run : s.inReset = false) : ∃ t, exec .oneShotExpiry s = .next t ∧ s.Does .oneShotExpiry t := by
  by_cases due : s.ptm.oneShot = some s.timeBase
  · cases mode : s.ptm.mode with
    | internal => exact ⟨_, exec_oneShotExpiry_internal run due mode, .timer (up := s.pins.syncIn) _ fun h => h.stopOneShot mode⟩
    | synced =>
      rcases Nat.lt_or_ge (elapsed s.ptm.lastBoundary s.timeBase) (s.act.active.val .internalPeriod) with ahead | passed
      · exact ⟨_, exec_oneShotExpiry_before run due mode ahead, .timer (up := s.pins.syncIn) _ fun h => h.loseLine _⟩
      · exact ⟨_, exec_oneShotExpiry_after run due mode passed, .gate _ s.pins.syncIn (fun h => h.loseLine _) _⟩
  · exact ⟨s, exec_oneShotExpiry_absent due, .nothing _⟩

theorem exec_internalTimerExpiry_does (run : s.inReset = false) :
    ∃ t, exec .internalTimerExpiry s = .next t ∧ s.Does .internalTimerExpiry t := by
  by_cases due : s.ptm.timer = some s.timeBase
  · exact ⟨_, exec_internalTimerExpiry run due,
      .gate _ s.pins.syncIn (fun h => h.reschedule (by rw [due]; exact Option.some_ne_none _) _) _⟩
  · exact ⟨s, exec_internalTimerExpiry_absent due, .nothing _⟩

/-- An event of a link, taken when it is due. -/
theorem State.Does.link_when {c : Instr} {l : Link} {due : Bool} {g : Liu → Liu}
    (ok : (s.liuOf l).Ok l → (g (s.liuOf l)).Ok l) : s.Does c (s.when due fun s => s.modLiu l g) := by
  cases due with
  | false => exact .nothing c
  | true => exact .link c l g ok

theorem exec_command_does (run : s.inReset = false) (k : Kind) : ∃ t, exec k.command s = .next t ∧ s.Does k.command t := by
  rw [exec_command]
  by_cases h : ∃ l f, s.served = some (l, f) ∧ f.kind = k.code
  · obtain ⟨l, f, served, kind⟩ := h
    exact ⟨_, serve_of_kind ⟨run, served⟩ kind, .served _ _ served (judge_judges l (s.dequeue l) k f).1⟩
  · exact ⟨s, serve_other fun l f served kind => h ⟨l, f, served, kind⟩, .nothing _⟩

theorem exec_badKindFrame_does (run : s.inReset = false) : ∃ t, exec .badKindFrame s = .next t ∧ s.Does .badKindFrame t := by
  by_cases h : ∃ l f, s.served = some (l, f) ∧ Kind.ofCode f.kind = none
  · obtain ⟨l, f, served, unknown⟩ := h
    exact ⟨_, exec_badKindFrame_of_served ⟨run, served⟩ unknown, .served _ _ served (.nothing _)⟩
  · refine ⟨s, exec_badKindFrame_of_known fun l f served => ?_, .nothing _⟩
    by_contra unknown
    exact h ⟨l, f, served, ofCode_eq_none_iff.2 fun k kind => unknown ⟨k, kind⟩⟩

end

/-- Every command answers a next state, and does one of these things. -/
theorem exec_does (c : Instr) (s : State) : ∃ t, exec c s = .next t ∧ s.Does c t := by
  cases held : s.inReset with
  | true =>
    by_cases isReset : c = .reset
    · subst isReset
      exact ⟨s.afterReset, rfl, .reset⟩
    · by_cases isEnd : c = .resetEnd
      · subst isEnd
        exact ⟨_, by simp only [exec, execResetEnd, held, State.when_true], .resetEnd held⟩
      · exact ⟨s, exec_of_inReset held isReset isEnd, .nothing c⟩
  | false =>
    have run := held
    cases c with
    | reset => exact ⟨s.afterReset, rfl, .reset⟩
    | resetEnd => exact ⟨s, exec_resetEnd_of_run run, .nothing _⟩
    | syncInEdge up => exact exec_syncInEdge_does run up
    | oneShotExpiry => exact exec_oneShotExpiry_does run
    | internalTimerExpiry => exact exec_internalTimerExpiry_does run
    | passCompletion =>
      cases flight : s.ale.pass with
      | none => exact ⟨s, exec_passCompletion_none flight, .nothing _⟩
      | some x => exact ⟨_, exec_passCompletion run flight, .complete flight⟩
    | toffNPinChange high =>
      by_cases change : s.act.pinLevel = high
      · exact ⟨s, exec_toffNPinChange_absent change, .nothing _⟩
      · exact ⟨_, exec_toffNPinChange run change, .pin high⟩
    | toffNFalling =>
      cases due : s.act.filterDue false with
      | false => exact ⟨s, exec_toffNFalling_absent due, .nothing _⟩
      | true => exact ⟨_, exec_toffNFalling run due, .falling⟩
    | toffNRising =>
      cases due : s.act.filterDue true with
      | false => exact ⟨s, exec_toffNRising_absent due, .nothing _⟩
      | true => exact ⟨_, exec_toffNRising run due, .rising⟩
    | countedEdge a p => exact ⟨_, exec_countedEdge run a p, .sensor _ a fun h => h.countEdge p _⟩
    | phaseError a => exact ⟨_, exec_phaseError run a, .sensor _ a fun h => h.takePhaseError⟩
    | zRisingEdge a => exact ⟨_, exec_zRisingEdge run a, .sensor _ a fun h => h.indexEdge _ _ _⟩
    | edgeHistoryExpiry a =>
      cases due : (s.asuOf a).historyExpired s.timeBase with
      | false => exact ⟨s, exec_edgeHistoryExpiry_absent due, .nothing _⟩
      | true =>
        refine ⟨_, exec_edgeHistoryExpiry run a, ?_⟩
        rw [due, State.when_true]
        exact .sensor (q := s.pins.sensor) _ a fun h => h.emptyHistory
    | byteTaken l data marker err => exact ⟨_, exec_byteTaken run l data marker err, .link _ l _ fun h => h.takeByte data marker err⟩
    | startBitConfirmed l => exact ⟨_, exec_startBitConfirmed run l, .link _ l _ fun h => h.startBit⟩
    | linkBreak l => exact ⟨_, exec_linkBreak run l, .link _ l _ fun _ => Liu.takeBreak_ok _ l⟩
    | gapExpiry l => exact ⟨_, exec_gapExpiry run l, .link_when fun h => h.abandonBad⟩
    | frameTransmitEnd l => exact ⟨_, exec_frameTransmitEnd run l, .link_when fun h => h.nextFrame⟩
    | resetBreakEnd l => exact ⟨_, exec_resetBreakEnd run l, .link_when fun h => h.nextFrame⟩
    | badKindFrame => exact exec_badKindFrame_does run
    | demand => exact exec_command_does run .demand
    | envelope => exact exec_command_does run .envelope
    | reference => exact exec_command_does run .reference
    | limitPost => exact exec_command_does run .limitPost
    | limitWithdraw => exact exec_command_does run .limitWithdraw
    | limitList => exact exec_command_does run .limitList
    | mapStage => exact exec_command_does run .mapStage
    | mapCommit => exact exec_command_does run .mapCommit
    | mapFlush => exact exec_command_does run .mapFlush
    | mapRead => exact exec_command_does run .mapRead
    | mapProbe => exact exec_command_does run .mapProbe
    | configWrite => exact exec_command_does run .configWrite
    | configRead => exact exec_command_does run .configRead
    | allocEnable => exact exec_command_does run .allocEnable
    | allocDisable => exact exec_command_does run .allocDisable
    | statusQuery => exact exec_command_does run .statusQuery

/-- What a command that leads to a state did. -/
theorem State.Does.of_exec {c : Instr} {s t : State} (h : exec c s = .next t) : s.Does c t := by
  obtain ⟨u, e, does⟩ := exec_does c s
  rw [e] at h
  injection h with h
  exact h ▸ does

/-- Settles O1. -/
theorem stepRunsFrontCommand : Obligations.StepRunsFrontCommand := by
  intro c rest s h
  simp [step, h]

/-- Settles O3, by what a command can do. -/
theorem everyCommandAnswersNext : Obligations.EveryCommandAnswersNext := by
  intro c s
  obtain ⟨t, e, does⟩ := exec_does c s
  refine ⟨t, e, ?_⟩
  cases does with
  | reset => exact ⟨rfl, rfl, fun h => absurd rfl h, fun h => absurd rfl h⟩
  | resetEnd held => exact ⟨rfl, rfl, fun _ => ⟨rfl, rfl⟩, fun _ h => absurd rfl h⟩
  | boundary c ok idle time => simp
  | complete flight => simp
  | falling => simp
  | served c o served changes =>
    obtain ⟨-, -, -, -, timeBase, subClock, -, pins, pending, inReset, -⟩ := changes.frame
    simp [timeBase, subClock, pins, pending, inReset]
  | _ => exact ⟨rfl, rfl, fun _ => ⟨rfl, rfl⟩, fun _ _ => rfl⟩

/-- The allocator state after a command: RUN is entered by ALLOC_ENABLE alone, and FORCED_OFF left by ALLOC_ENABLE,
ALLOC_DISABLE and RESET alone (R126 to R132). -/
theorem State.Does.alloc {c : Instr} {s t : State} (h : s.Does c t) :
    (s.act.state ≠ .run → t.act.state = .run → c = .allocEnable ∧ s.act.filtered = true) ∧
    (s.act.state = .forcedOff → c ≠ .allocEnable → c ≠ .allocDisable → c ≠ .reset → t.act.state = .forcedOff) := by
  cases h with
  | reset => exact ⟨fun _ h => (nomatch h), fun _ _ _ h => absurd rfl h⟩
  | falling => exact ⟨fun _ h => (nomatch h), fun _ _ _ _ => rfl⟩
  | boundary c ok idle time =>
    rw [State.takeBoundary_act]
    exact ⟨fun h1 h2 => absurd h2 h1, fun h _ _ _ => h⟩
  | complete flight =>
    rw [State.complete_act]
    dsimp only
    split_ifs with ends
    · exact ⟨fun _ h => (nomatch h), fun h => by simp [h] at ends⟩
    · exact ⟨fun h1 h2 => absurd h2 h1, fun h _ _ _ => h⟩
  | served c o served changes =>
    rw [State.answer_act]
    cases changes with
    | enable high => exact ⟨fun _ _ => ⟨rfl, high⟩, fun _ h => absurd rfl h⟩
    | disable =>
      refine ⟨fun _ run => ?_, fun _ _ h => absurd rfl h⟩
      have : s.act.state.disabled = .run := run
      cases state : s.act.state <;> simp [state, AllocState.disabled] at this
    | config c ok state filter disarms =>
      dsimp only
      rw [state]
      exact ⟨fun h1 h2 => absurd h2 h1, fun h _ _ _ => h⟩
    | _ => exact ⟨fun h1 h2 => absurd h2 h1, fun h _ _ _ => h⟩
  | _ => exact ⟨fun h1 h2 => absurd h2 h1, fun h _ _ _ => h⟩

theorem runAll_pair {c d : Instr} {s m t : State} (h1 : exec c s = .next m) (h2 : exec d m = .next t) :
    runAll [c, d] s = some t := by
  simp only [runAll, h1, h2]

/-- Settles O35. -/
theorem toffFilterAndRising : Obligations.ToffFilterAndRising := by
  refine ⟨fun s h run change => exec_toffNPinChange run change, fun s run high low held => ?_,
    fun s t c off e h1 h2 h3 => (State.Does.of_exec e).alloc.2 off h1 h2 h3⟩
  have rising := exec_toffNRising run (Act.filterDue_iff.2 ⟨high, low, held⟩)
  refine ⟨rising, fun f serves passes => ?_⟩
  have enabled := (enableAndDisable { s with act := { s.act with filtered := true } } .vsc f serves).1 passes |>.1 rfl
  exact ⟨_, runAll_pair rising enabled, rfl⟩

end Sys2Proof.Machine
end

section
/-! SUPPORT. Each block stays sound under every command and every clock period. -/

namespace Sys2Proof.Machine

theorem PerAxle.all_iff {α : Type} {p : PerAxle α} {q : α → Prop} : p.All q ↔ ∀ a, q (p.get a) :=
  ⟨fun h a => by cases a; exacts [h.1, h.2], fun h => ⟨h .front, h .rear⟩⟩

/-- What a step is: an idle step while RESET_N is low, a clock period, or the command at the front of the queue. -/
theorem step_cases {s t : State} (h : step s = .next t) :
    (s.pending = [] ∧ ∃ es, t = { s with pending := es }) ∨
    (s.pending = [] ∧ ∃ es last, t = s.advance.queued es last) ∨
    ∃ c rest, s.pending = c :: rest ∧ State.Does { s with pending := rest } c t := by
  unfold step at h
  split at h
  next empty =>
    injection h with h
    subst h
    unfold State.tick
    split
    · exact .inl ⟨empty, _, rfl⟩
    · exact .inr (.inl ⟨empty, _, _, rfl⟩)
  next c rest queue => exact .inr (.inr ⟨c, rest, queue, .of_exec h⟩)

/-! ### What a pass leaves -/

section
variable {p : PassCopy}

/-- Stage 9 keeps a hold counter within the range of REVERSAL_HOLD (R3, R23). -/
theorem stage9_holdCounter_le {prev target rate : Int} {hold n : Nat} {c : AxleCarry} (h1 : hold ≤ n)
    (h2 : c.holdCounter ≤ n) : (stage9 prev target rate hold c).2.holdCounter ≤ n := by
  have counter : c.counter hold ≤ n := by
    unfold AxleCarry.counter
    split_ifs <;> assumption
  by_cases down : 0 < prev ∧ target ≤ 0 ∨ prev < 0 ∧ 0 ≤ target
  · rw [stage9_of_runsDown down]
    exact h2
  · by_cases turns : prev = 0 ∧ target ≠ 0 ∧ c.lastSign ≠ .none ∧ signOf target ≠ c.lastSign
    · obtain ⟨rfl, turns⟩ := turns
      rcases Nat.eq_zero_or_pos (c.counter hold) with done | waits
      · rw [stage9_of_turns turns done]
        exact Nat.zero_le _
      · rw [stage9_of_waits turns waits]
        dsimp only
        omega
    · rw [stage9_of_continues down turns]
      exact h2

/-- The carried state of a completion is in range (R3). -/
theorem PassCopy.carriedOut_ok (demand : |p.demand| ≤ 16000) (share : p.share ≤ 1000)
    (hold : p.config.val .reversalHold ≤ 15) (counters : p.carried.axle.All fun c => c.holdCounter ≤ 15) (forced : Bool) :
    (p.carriedOut forced).Ok := by
  have counter (a : Axle) : (p.carry forced a).holdCounter ≤ 15 := by
    have before := PerAxle.all_iff.1 counters a
    have after : (p.lockedCarry a).holdCounter ≤ 15 := by
      unfold PassCopy.lockedCarry
      split_ifs
      · exact before
      · exact stage9_holdCounter_le hold before
    cases forced
    · exact after
    · exact after
  exact ⟨demand, share, counter .front, counter .rear⟩

/-- The published record of a completion is in range (R4). -/
theorem PassCopy.publish_ok (demand : |p.demand| ≤ 16000) (share : p.share ≤ 1000) (prev : CommandsOk p.prev)
    (envelope : p.image.envelope.All (fun e => e.fields.drive ≤ 16000 ∧ e.fields.regen ≤ 16000)) (forced : Bool) :
    (p.publish forced).Ok := by
  have commands := p.commands_ok prev envelope forced
  refine ⟨commands, ?_, demand, share, p.abs_slip_le .front, p.abs_slip_le .rear⟩
  obtain ⟨sum, -⟩ := commands
  simp only [PerAxle.of_front, PerAxle.of_rear] at sum
  show |p.demand - p.command forced .front - p.command forced .rear| ≤ 32000
  simp only [abs_eq_max_neg] at *
  omega

theorem PassCopy.abs_demand_le (fresh : |p.image.demand.fields.demand| ≤ 16000) (carried : |p.carried.demand| ≤ 16000) :
    |p.demand| ≤ 16000 := by
  by_cases run : p.allocState = .run
  · cases state : p.image.demand.fresh with
    | true => rwa [p.demand_of_fresh run state]
    | false =>
      rw [p.demand_of_stale run state]
      have spec := moveToward_spec (v := p.carried.demand) (target := 0) (Int.natCast_nonneg (p.config.val .demandDecay))
      simp only [abs_eq_max_neg] at *
      omega
  · simp [p.demand_of_not_run run]

end

/-- A sound pass completes into a sound record and a sound carried state (R3, R4). -/
theorem Pass.Ok.completes {x : Pass} (h : x.Ok) (forced : Bool) :
    (x.copy.carriedOut forced).Ok ∧ (x.copy.publish forced).Ok := by
  obtain ⟨config, policy, fresh, envelope, ⟨carriedDemand, carriedShare, counters⟩, prev, -⟩ := h
  have demand := PassCopy.abs_demand_le fresh carriedDemand
  have share := x.copy.share_le policy.1 carriedShare
  exact ⟨x.copy.carriedOut_ok demand share (config .reversalHold).2 counters forced,
    x.copy.publish_ok demand share prev envelope forced⟩

/-! ### Block by block -/

section
variable {s t : State} {c : Instr}

theorem State.Does.map_ok (h : s.Does c t) (ok : s.map.Ok) : t.map.Ok := by
  cases h with
  | reset => exact SplitMap.reset_ok
  | boundary c p idle time => exact SplitMap.Ok.takeBoundary time (s := { s with ptm := _, pins := _ }) ok
  | complete flight => simpa using ok
  | served c o served changes =>
    rw [State.answer_map]
    cases changes with
    | map c keeps => exact keeps ok
    | _ => exact ok
  | _ => exact ok

theorem State.Does.limits_ok (h : s.Does c t) (ok : LimitsOk s.limits) : LimitsOk t.limits := by
  cases h with
  | reset => exact LimitsOk.nil
  | boundary c p idle time =>
    rw [State.takeBoundary_limits]
    exact ok.consumeLimits
  | complete flight => simpa using ok
  | served c o served changes =>
    rw [State.answer_limits]
    cases changes with
    | limits c keeps => exact keeps ok
    | _ => exact ok
  | _ => exact ok

theorem Image.reset_ok : Image.reset.Ok := by simp [Image.Ok, Image.reset]

theorem State.Does.image_ok (h : s.Does c t) (ok : s.image.Ok) : t.image.Ok := by
  cases h with
  | reset => exact Image.reset_ok
  | boundary c p idle time =>
    rw [State.takeBoundary_image]
    exact ok.advance
  | complete flight =>
    rw [(s.complete_status _).2.2.1]
    exact ok.clear _
  | served c o served changes =>
    rw [State.answer_image]
    cases changes with
    | image c keeps => exact keeps ok
    | _ => exact ok
  | _ => exact ok

theorem State.Does.config_ok (h : s.Does c t) (ok : s.act.InRange) : t.act.InRange := by
  cases h with
  | reset => exact Act.reset_inRange
  | boundary c p idle time => exact Act.InRange.takeBoundary time (s := { s with ptm := _, pins := _ }) ok
  | complete flight =>
    rw [State.complete_act]
    exact ok
  | served c o served changes =>
    rw [State.answer_act]
    cases changes with
    | config c keeps => exact keeps ok
    | _ => exact ok
  | _ => exact ok

theorem State.Does.timer_ok (h : s.Does c t) (ok : s.ptm.Ok) (config : s.act.InRange) : t.ptm.Ok := by
  cases h with
  | reset => exact Ptm.reset_ok
  | resetEnd held => exact ok.setLevel _
  | timer c keeps => exact keeps ok
  | boundary c keeps idle time => exact (keeps ok).takeBoundary (s := { s with ptm := _, pins := _ }) config time
  | complete flight =>
    rw [(s.complete_status _).2.1]
    exact ok
  | served c o served changes =>
    obtain ⟨-, -, -, ptm, -⟩ := changes.frame
    rw [State.answer_ptm, ptm]
    exact ok
  | _ => exact ok

theorem Asu.Ok.of_armed {u v : Asu} (h : u.Ok) {b : Bool} (e : { v with armed := b } = u) : v.Ok := by
  subst e
  exact h

theorem State.asuOf_answer (s : State) (l : Link) (f : Frame) (o : Option Answer) (a : Axle) :
    (s.answer l f o).asuOf a = s.asuOf a := by
  simp [State.asuOf]

theorem State.Does.sensors_ok (h : s.Does c t) (ok : ∀ a, (s.asuOf a).Ok) (a : Axle) : (t.asuOf a).Ok := by
  cases h with
  | reset => cases a <;> exact Asu.reset_ok
  | resetEnd held =>
    have levels := (ok a).setLevels (s.pins.sensor.get a).a (s.pins.sensor.get a).b (s.pins.sensor.get a).z
    simpa [State.takeLevels, State.asuOf] using levels
  | sensor c b keeps =>
    by_cases same : b = a
    · subst same
      simpa [State.asuOf] using keeps (ok b)
    · simpa [State.asuOf, PerAxle.get_set_ne _ _ same] using ok a
  | boundary c p idle time => exact Asu.Ok.takeBoundary time (s := { s with ptm := _, pins := _ }) (ok a)
  | complete flight => simpa [State.asuOf] using ok a
  | served c o served changes =>
    obtain ⟨-, -, -, -, -, -, -, -, -, -, sensors⟩ := changes.frame
    rw [State.asuOf_answer]
    exact (ok a).of_armed (sensors a)
  | _ => exact ok a

theorem Liu.Ok.atResetEnd {u : Liu} {l : Link} (h : u.Ok l) (r : Receiver) :
    ({ u with receiver := r, tx := .resetBreak 0 } : Liu).Ok l := by
  obtain ⟨rx, queue, wellFormed, count, faulted, begun, growing, gap, -⟩ := h
  exact ⟨rx, queue, wellFormed, count, faulted, begun, growing, gap, fun idle => nomatch idle⟩

/-- Both AXLE_COMMANDs are of their links' periodic kind. -/
theorem State.axleCommand_kind (s : State) (a : Axle) : (s.axleCommand a).kind = periodicCode a.link := by
  cases a <;> rfl

theorem State.complete_links (x : Pass) (ok : s.LinksOk) : (s.complete x).LinksOk := by
  obtain ⟨-, -, -, others, quiet, report⟩ := s.complete_status x
  obtain ⟨commands, -, sbc⟩ := s.reported_liuOf x
  have inverter (a : Axle) : ((s.complete x).liuOf a.link).Ok a.link := by
    rw [State.complete_axleCommand]
    exact (ok a.link).putPeriodic (State.axleCommand_kind _ a)
  intro l
  cases l with
  | vsc =>
    cases due : decide (s.act.active.val .statusInterval ≤ s.statusCount + 1) with
    | true =>
      rw [report due]
      exact (ok .vsc).putPeriodic rfl
    | false =>
      rw [quiet due]
      exact ok .vsc
  | fdi => exact inverter .front
  | rdi => exact inverter .rear
  | sbc =>
    rw [others .sbc (by simp), sbc]
    exact (ok .sbc).putPeriodic rfl

theorem State.torqueOff_links (ok : s.LinksOk) : s.torqueOff.LinksOk := by
  obtain ⟨commands, vsc, sbc⟩ := s.torqueOff_liuOf
  have inverter (a : Axle) : (s.torqueOff.liuOf a.link).Ok a.link := by
    rw [commands a]
    exact (ok a.link).putPeriodic (by cases a <;> rfl)
  intro l
  cases l with
  | vsc => rw [vsc]; exact ok .vsc
  | fdi => exact inverter .front
  | rdi => exact inverter .rear
  | sbc => rw [sbc]; exact ok .sbc

/-- The frame served leaves its queue and at most one RESPONSE joins, where two are never reached (R153, R159). -/
theorem State.LinksOk.served (ok : s.LinksOk) {l : Link} {f : Frame} (served : s.served = some (l, f)) {t : State}
    (changes : (s.dequeue l).Changes c t) (o : Option Answer) : (t.answer l f o).LinksOk := by
  obtain ⟨liu, -⟩ := changes.frame
  have links (m : Link) : t.liuOf m = (s.dequeue l).liuOf m := congrArg (fun p => p.get m) liu
  obtain ⟨-, eligible, -⟩ := State.served_eq_some.1 served
  have room : (s.liuOf l).responses < 2 := by
    have := (Liu.eligible_eq_true.1 eligible).2
    rwa [Liu.responses, List.countP_eq_length_filter]
  have own : (t.liuOf l).Ok l := by
    rw [links, State.liuOf_dequeue_same]
    exact (ok l).dequeue
  intro m
  by_cases same : m = l
  · subst same
    cases o with
    | none => exact own
    | some a =>
      rw [State.liuOf_answer_some]
      refine own.appendResponse ?_ (response_isResponse f a)
      rw [links, State.liuOf_dequeue_same]
      exact room
  · rw [State.liuOf_answer_ne _ _ _ same, links, State.liuOf_dequeue_ne _ same]
    exact ok m

theorem State.Does.links_ok (h : s.Does c t) (ok : s.LinksOk) : t.LinksOk := by
  cases h with
  | reset => intro l; cases l <;> exact Liu.reset_ok _
  | resetEnd held =>
    intro l
    simpa [State.takeLevels, State.liuOf] using (ok l).atResetEnd (Receiver.atResetEnd (s.pins.rxd.get l))
  | link c l g keeps =>
    intro m
    by_cases same : m = l
    · subst same
      rw [State.liuOf_modLiu_same]
      exact keeps (ok m)
    · rw [State.liuOf_modLiu_ne s g same]
      exact ok m
  | boundary c p idle time => simpa [State.LinksOk, State.liuOf] using ok
  | falling => exact State.torqueOff_links ok
  | complete flight => exact State.complete_links _ ok
  | served c o served changes => exact ok.served served changes o
  | _ => exact ok

theorem Ale.reset_ok : Ale.reset.Ok := by
  simp [Ale.Ok, Ale.reset, Carried.Ok, Published.Ok, CommandsOk, AxleCarry.reset]

/-- A torque-off leaves a sound engine (R131). -/
theorem Ale.Ok.torqueOff {x : Ale} (h : x.Ok) : x.torqueOff.Ok := by
  obtain ⟨⟨demand, share, counters⟩, ⟨-, shortfall, outDemand, outShare, slip⟩, flight⟩ := h
  have zero : CommandsOk x.torqueOff.published.torque := by simp [CommandsOk, Ale.torqueOff, Published.zeroed]
  refine ⟨⟨demand, share, counters⟩, ⟨zero, shortfall, outDemand, outShare, slip⟩, fun p hp => ?_⟩
  obtain ⟨q, hq, rfl⟩ := Option.map_eq_some_iff.1 hp
  exact ⟨(flight q hq).1, fun off => nomatch off⟩

theorem State.Does.engine_ok (h : s.Does c t) (ok : s.ale.Ok) (map : s.map.Ok) (config : s.act.InRange)
    (image : s.image.Ok) : t.ale.Ok := by
  cases h with
  | reset => exact Ale.reset_ok
  | falling => exact ok.torqueOff
  | boundary c p idle time =>
    obtain ⟨carried, published, -⟩ := ok
    rw [Ale.Ok, State.takeBoundary_carried, State.takeBoundary_published]
    refine ⟨carried, published, fun x hx => ?_⟩
    obtain ⟨sound, -, -, eCarried, ePrev⟩ :=
      Pass.ok_of_takeBoundary time (s := { s with ptm := _, pins := _ }) map config image carried published hx
    exact ⟨sound, fun _ => ⟨eCarried, ePrev⟩⟩
  | complete flight =>
    obtain ⟨-, -, inFlight⟩ := ok
    obtain ⟨carried, published⟩ := (inFlight _ flight).1.completes (s.forced _)
    rw [State.complete_ale]
    exact ⟨carried, published, fun x hx => nomatch hx⟩
  | served c o served changes =>
    obtain ⟨-, -, ale, -⟩ := changes.frame
    rw [State.answer_ale, ale]
    exact ok
  | _ => exact ok

theorem State.Does.status_ok (h : s.Does c t) (ok : s.statusCount ≤ 15) (config : s.act.InRange) : t.statusCount ≤ 15 := by
  cases h with
  | reset => exact Nat.zero_le _
  | boundary c p idle time => simpa using ok
  | complete flight =>
    have interval : s.act.active.val .statusInterval ≤ 16 := (config .statusInterval).1.2
    rw [(s.complete_status _).1]
    simp only [decide_eq_true_eq]
    split_ifs <;> omega
  | served c o served changes =>
    obtain ⟨-, -, -, -, -, -, statusCount, -⟩ := changes.frame
    rw [State.answer_statusCount, statusCount]
    exact ok
  | _ => exact ok

theorem State.Does.filter_ok (h : s.Does c t) (ok : s.act.held ≤ toffFilterClocks) : t.act.held ≤ toffFilterClocks := by
  cases h with
  | reset => exact Nat.zero_le _
  | resetEnd held => exact Nat.zero_le _
  | pin high => exact Nat.zero_le _
  | boundary c p idle time =>
    rw [State.takeBoundary_act]
    exact ok
  | complete flight =>
    rw [State.complete_act]
    exact ok
  | served c o served changes =>
    rw [State.answer_act]
    cases changes with
    | config c keeps state filter disarms => exact filter.2.2.trans_le ok
    | _ => exact ok
  | _ => exact ok

theorem State.Does.clock_ok (h : s.Does c t) (ok : s.subClock < clocksPerMicro) : t.subClock < clocksPerMicro := by
  cases h with
  | reset => exact Nat.succ_pos _
  | boundary c p idle time => simpa using ok
  | complete flight => simpa using ok
  | served c o served changes =>
    obtain ⟨-, -, -, -, -, subClock, -⟩ := changes.frame
    rw [State.answer_subClock, subClock]
    exact ok
  | _ => exact ok

/-- The published commands after a command that is no completion: as they were, or zero (R131). -/
theorem State.Does.torque (h : s.Does c t) :
    t.ale.published.torque = s.ale.published.torque ∨ t.ale.published.torque = { front := 0, rear := 0 } ∨
      c = .passCompletion ∧ ∃ x, s.ale.pass = some x ∧ t = s.complete x := by
  cases h with
  | reset => exact .inr (.inl rfl)
  | falling => exact .inr (.inl rfl)
  | boundary c p idle time =>
    rw [State.takeBoundary_published]
    exact .inl rfl
  | complete flight => exact .inr (.inr ⟨rfl, _, flight, rfl⟩)
  | served c o served changes =>
    obtain ⟨-, -, ale, -⟩ := changes.frame
    rw [State.answer_ale, ale]
    exact .inl rfl
  | _ => exact .inl rfl

/-- A pass that a torque-off or the allocator's state forces publishes zeros (R28). -/
theorem State.complete_zero {x : Pass} (forced : s.forced x = true) :
    (s.complete x).ale.published.torque = { front := 0, rear := 0 } := by
  rw [State.complete_ale, forced]
  rfl

theorem AllocState.off_iff {x : AllocState} : x.off = true ↔ x = .standby ∨ x = .forcedOff := by
  cases x <;> simp [AllocState.off]

theorem State.OffOk.forced (ok : s.OffOk) (off : s.act.state.off = true) {x : Pass} (flight : s.ale.pass = some x) :
    s.forced x = true := by
  rw [State.forced_eq, decide_eq_true_eq]
  rcases (ok off).2 x flight with taken | copied
  · exact .inr (.inr (.inr taken))
  · rcases AllocState.off_iff.1 copied with h | h
    · exact .inl h
    · exact .inr (.inl h)

/-- While the allocator is off no command leaves a nonzero command behind (R125). -/
theorem State.Does.zero_of_off (h : s.Does c t) (ok : s.OffOk) (off : s.act.state.off = true) :
    t.ale.published.torque = { front := 0, rear := 0 } := by
  rcases h.torque with same | zero | ⟨-, x, flight, rfl⟩
  · rw [same]
    exact (ok off).1
  · exact zero
  · exact State.complete_zero (ok.forced off flight)

theorem State.Does.off_ok (h : s.Does c t) (ok : s.OffOk) : t.OffOk := by
  cases h with
  | reset => exact fun _ => ⟨rfl, fun p hp => nomatch hp⟩
  | falling =>
    refine fun _ => ⟨rfl, fun p hp => ?_⟩
    obtain ⟨q, -, rfl⟩ := Option.map_eq_some_iff.1 hp
    exact .inl rfl
  | boundary c p idle time =>
    intro off
    rw [State.takeBoundary_act] at off
    rw [State.takeBoundary_published]
    refine ⟨(ok off).1, fun x hx => .inr ?_⟩
    obtain ⟨y, hy, -, -, -, -, state, -⟩ := State.takeBoundary_pass { s with ptm := _, pins := _ } time
    obtain rfl : y = x := Option.some.inj (hy.symm.trans hx)
    rw [state]
    exact off
  | complete flight =>
    intro off
    refine ⟨?_, fun p hp => ?_⟩
    · rw [State.complete_act] at off
      dsimp only at off
      split_ifs at off with ends
      · exact ends.2
      · exact State.complete_zero (ok.forced off flight)
    · rw [State.complete_ale] at hp
      exact nomatch hp
  | served c o served changes =>
    obtain ⟨-, -, ale, -⟩ := changes.frame
    intro off
    rw [State.answer_act] at off
    rw [State.answer_ale, ale]
    refine ok ?_
    cases changes with
    | enable high => exact nomatch off
    | disable =>
      have disabled : s.act.state.disabled.off = true := off
      cases state : s.act.state <;> simp [state, AllocState.disabled, AllocState.off] at disabled ⊢
    | config c keeps state filter disarms => exact state ▸ off
    | _ => exact off
  | _ => exact ok

end

end Sys2Proof.Machine
end

section
/-! SUPPORT. Steps: what a clock period and a command keep, and the statements about every step. -/

namespace Sys2Proof.Machine

/-! ### A clock period -/

section
variable (s : State)

theorem State.advance_act : s.advance.act = { s.act with held := min (s.act.held + 1) toffFilterClocks } := by
  simp [State.advance]

theorem State.advance_ale :
    s.advance.ale = { s.ale with pass := s.ale.pass.map fun p => { p with clocks := p.clocks + 1 } } := by
  simp [State.advance]

theorem State.advance_asuOf (a : Axle) :
    s.advance.asuOf a = { s.asuOf a with levelZ := (s.asuOf a).levelZ && (s.pins.sensor.get a).z } := by
  simp [State.advance, State.asuOf]

theorem State.advance_liuOf (l : Link) : s.advance.liuOf l = (s.liuOf l).advance (s.pins.rxd.get l) := by
  simp [State.advance, State.liuOf]

/-- The time base advances by one every 40 clock periods (R108). -/
theorem State.advance_time (h : s.subClock < 40) :
    (40 * s.advance.timeBase.toNat + s.advance.subClock) % (40 * 2 ^ 32) =
      (40 * s.timeBase.toNat + s.subClock + 1) % (40 * 2 ^ 32) ∧ s.advance.subClock < 40 := by
  have e : s.advance.timeBase = s.advanceTime.timeBase ∧ s.advance.subClock = s.advanceTime.subClock := ⟨rfl, rfl⟩
  rw [e.1, e.2]
  have width := s.timeBase.isLt
  unfold State.advanceTime
  split
  next within =>
    simp only [clocksPerMicro] at within
    exact ⟨rfl, within⟩
  next full =>
    simp only [clocksPerMicro] at full
    have wraps : (s.timeBase + 1).toNat = (s.timeBase.toNat + 1) % 2 ^ 32 := by simp [BitVec.toNat_add]
    dsimp only
    omega

end

section
variable {s : State} (es last : List Instr)

theorem State.queued_links (ok : s.LinksOk) : (s.advance.queued es last).LinksOk := by
  intro l
  have e : (s.advance.queued es last).liuOf l = (s.liuOf l).advance (s.pins.rxd.get l) := s.advance_liuOf l
  rw [e]
  exact (ok l).advance _

theorem State.queued_engine (ok : s.ale.Ok) : (s.advance.queued es last).ale.Ok := by
  obtain ⟨carried, published, flight⟩ := ok
  rw [State.queued_ale, State.advance_ale]
  refine ⟨carried, published, fun q hq => ?_⟩
  obtain ⟨p, hp, rfl⟩ := Option.map_eq_some_iff.1 hq
  exact flight p hp

theorem State.queued_off (ok : s.OffOk) : (s.advance.queued es last).OffOk := by
  intro off
  rw [State.queued_act, State.advance_act] at off
  rw [State.queued_ale, State.advance_ale]
  obtain ⟨zero, flight⟩ := ok off
  refine ⟨zero, fun q hq => ?_⟩
  obtain ⟨p, hp, rfl⟩ := Option.map_eq_some_iff.1 hq
  exact flight p hp

theorem State.queued_sound (ok : s.Ok) : (s.advance.queued es last).Ok where
  map := by simpa using ok.map
  limits := by simpa using ok.limits
  links := State.queued_links es last ok.links
  config := by
    have config := State.configOk_iff.1 ok.config
    rw [State.configOk_iff, State.queued_act, State.advance_act]
    exact config
  image := by simpa using ok.image
  sensors := by
    rw [PerAxle.all_iff]
    intro a
    have e : (s.advance.queued es last).asu.get a = _ := s.advance_asuOf a
    rw [e]
    exact (PerAxle.all_iff.1 ok.sensors a).setLevels _ _ _
  timer := by simpa using ok.timer
  engine := State.queued_engine es last ok.engine
  status := by simpa using ok.status
  filter := by
    rw [State.queued_act, State.advance_act]
    exact min_le_right _ _
  clock := (s.advance_time ok.clock).2
  off := State.queued_off es last ok.off

end

/-! ### Every step -/

/-- Settles O56. -/
theorem stepKeepsSplitMap : Obligations.StepKeepsSplitMap := by
  intro s t ok h
  rcases step_cases h with ⟨-, es, rfl⟩ | ⟨-, es, last, rfl⟩ | ⟨c, rest, -, does⟩
  · exact ok
  · simpa using ok
  · exact does.map_ok ok

/-- Settles O57. -/
theorem stepKeepsLimitTable : Obligations.StepKeepsLimitTable := by
  intro s t ok h
  rcases step_cases h with ⟨-, es, rfl⟩ | ⟨-, es, last, rfl⟩ | ⟨c, rest, -, does⟩
  · exact ok
  · simpa using ok
  · exact does.limits_ok ok

/-- Settles O58. -/
theorem stepKeepsLinks : Obligations.StepKeepsLinks := by
  intro s t ok h
  rcases step_cases h with ⟨-, es, rfl⟩ | ⟨-, es, last, rfl⟩ | ⟨c, rest, -, does⟩
  · exact ok
  · exact State.queued_links es last ok
  · exact does.links_ok ok

/-- Settles O59. -/
theorem offMeansZeroCommands : Obligations.OffMeansZeroCommands := by
  intro s t ok h
  rcases step_cases h with ⟨-, es, rfl⟩ | ⟨-, es, last, rfl⟩ | ⟨c, rest, queue, does⟩
  · exact ⟨ok, fun off => (ok off).1, fun h1 h2 => absurd h2 h1⟩
  · refine ⟨State.queued_off es last ok, fun off => ?_, fun h1 h2 => ?_⟩
    · rw [State.queued_ale, State.advance_ale]
      exact (ok off).1
    · rw [State.queued_act, State.advance_act] at h2
      exact absurd h2 h1
  · refine ⟨does.off_ok ok, does.zero_of_off ok, fun h1 h2 => ?_⟩
    obtain ⟨rfl, high⟩ := does.alloc.1 h1 h2
    exact ⟨by rw [queue]; rfl, high⟩

/-- A completion turns no command: it works from the commands that stand, or publishes zero (R21 to R28). -/
theorem State.complete_keeps_sign {s : State} (ok : s.ale.Ok) {x : Pass} (flight : s.ale.pass = some x) (a : Axle) :
    ¬ (0 < s.ale.published.torque.get a ∧ (s.complete x).ale.published.torque.get a < 0) ∧
    ¬ (s.ale.published.torque.get a < 0 ∧ 0 < (s.complete x).ale.published.torque.get a) := by
  cases forced : s.forced x with
  | true =>
    have zero : (s.complete x).ale.published.torque.get a = 0 := by
      rw [State.complete_zero forced]
      cases a <;> rfl
    omega
  | false =>
    have free : x.toffTaken = false := by
      rw [State.forced_eq, decide_eq_false_iff_not] at forced
      by_contra taken
      exact forced (.inr (.inr (.inr (by simpa using taken))))
    obtain ⟨-, prev⟩ := (ok.2.2 x flight).2 free
    obtain ⟨-, -, -, signs⟩ := x.copy.command_spec false a
    have out : (s.complete x).ale.published.torque.get a = x.copy.command false a := by
      rw [State.complete_ale, forced]
      exact PerAxle.get_of _ a
    rw [out, ← prev]
    exact signs

/-- Settles O52. -/
theorem noStepReversesACommand : Obligations.NoStepReversesACommand := by
  intro s t ok h a
  have still (e : t.ale.published.torque = s.ale.published.torque) :
      ¬ (0 < s.ale.published.torque.get a ∧ t.ale.published.torque.get a < 0) ∧
      ¬ (s.ale.published.torque.get a < 0 ∧ 0 < t.ale.published.torque.get a) ∧
      (s.pending.head? ≠ some .passCompletion → |t.ale.published.torque.get a| ≤ |s.ale.published.torque.get a|) := by
    rw [e]
    exact ⟨by omega, by omega, fun _ => le_rfl⟩
  rcases step_cases h with ⟨-, es, rfl⟩ | ⟨-, es, last, rfl⟩ | ⟨c, rest, queue, does⟩
  · exact still rfl
  · exact still (by rw [State.queued_ale, State.advance_ale])
  · rcases does.torque with same | zero | ⟨rfl, x, flight, rfl⟩
    · exact still same
    · have out : t.ale.published.torque.get a = 0 := by rw [zero]; cases a <;> rfl
      rw [out]
      exact ⟨by omega, by omega, fun _ => by simp⟩
    · obtain ⟨up, down⟩ := State.complete_keeps_sign (s := { s with pending := rest }) ok flight a
      exact ⟨up, down, fun other => absurd (by rw [queue]; rfl) other⟩

/-- Settles O60: block by block. -/
theorem stepKeepsEveryBlock : Obligations.StepKeepsEveryBlock := by
  intro s t ok h
  rcases step_cases h with ⟨-, es, rfl⟩ | ⟨-, es, last, rfl⟩ | ⟨c, rest, -, does⟩
  · exact { ok with }
  · exact State.queued_sound es last ok
  · have config := State.configOk_iff.1 ok.config
    exact {
      map := does.map_ok ok.map
      limits := does.limits_ok ok.limits
      links := does.links_ok ok.links
      config := does.config_ok config
      image := does.image_ok ok.image
      sensors := PerAxle.all_iff.2 (does.sensors_ok (PerAxle.all_iff.1 ok.sensors))
      timer := does.timer_ok ok.timer config
      engine := does.engine_ok ok.engine ok.map config ok.image
      status := does.status_ok ok.status config
      filter := does.filter_ok ok.filter
      clock := does.clock_ok ok.clock
      off := does.off_ok ok.off }

/-! ### Reset -/

/-- Settles O55. -/
theorem resetStateIsSound : Obligations.ResetStateIsSound where
  map := SplitMap.reset_ok
  limits := LimitsOk.nil
  links := fun l => by cases l <;> exact Liu.reset_ok _
  config := Act.reset_inRange
  image := Image.reset_ok
  sensors := ⟨Asu.reset_ok, Asu.reset_ok⟩
  timer := Ptm.reset_ok
  engine := Ale.reset_ok
  status := Nat.zero_le _
  filter := Nat.zero_le _
  clock := Nat.succ_pos _
  off := fun _ => ⟨rfl, fun p hp => nomatch hp⟩

/-- Settles O5. -/
theorem resetLeavesTabledValues : Obligations.ResetLeavesTabledValues := by
  intro s
  refine ⟨s.afterReset, rfl, rfl, rfl, ⟨rfl, rfl, rfl, rfl, rfl, rfl, rfl, rfl, rfl, rfl, rfl⟩, fun a => ?_,
    ⟨rfl, fun a => ?_, rfl, rfl⟩, fun n w => ?_, ⟨rfl, rfl, rfl, rfl⟩, ⟨rfl, rfl, rfl, fun a => ?_, rfl⟩,
    ⟨rfl, rfl, fun q => ?_, rfl⟩, rfl, rfl, fun l => ?_⟩
  · cases a <;> exact ⟨rfl, rfl, rfl, rfl, rfl, rfl, rfl, rfl, rfl, rfl, rfl, rfl⟩
  · cases a <;> rfl
  · have entry : (s.afterReset.map.set n).entry w = { valid := false, content := Content.reset } := SplitMap.reset_entry n w
    have set : s.afterReset.map.set n = _ := SplitMap.reset_set n
    exact ⟨by rw [set]; rfl, by rw [entry], by rw [entry]; rfl⟩
  · cases a <;> rfl
  · cases q <;> rfl
  · cases l <;> exact ⟨rfl, rfl, rfl, rfl, rfl, rfl, rfl, rfl, rfl⟩

/-- Settles O6. -/
theorem resetEndTakesLineLevels : Obligations.ResetEndTakesLineLevels := by
  intro s held
  refine ⟨State.takeLevels { s with inReset := false, pins := { s.pins with resetN := true } }, ?_, rfl, rfl, rfl,
    fun a => ?_, fun l => ?_, fun l => ?_⟩
  · simp only [exec, execResetEnd, held, State.when_true]
  · cases a <;> rfl
  · cases l <;> rfl
  · cases l <;> rfl

end Sys2Proof.Machine
end

section
/-! SUPPORT. One clock period on an empty queue: which events fall due (R2, R108, R115, R130, R166, R169). -/

namespace Sys2Proof.Machine

section
variable {l m : Link} {u v : Liu} {rxd : Bool}

theorem gapExpiry_mem_linkEvents : .gapExpiry l ∈ linkEvents m u v rxd ↔ l = m ∧ v.gapDone = true := by
  cases handed : (u.receiver.sample rxd).2 with
  | none => simp [linkEvents, mem_due, handed, and_comm]
  | some e => cases e <;> simp [linkEvents, mem_due, handed, RxEvent.command, and_comm]

theorem linkBreak_mem_linkEvents :
    .linkBreak l ∈ linkEvents m u v rxd ↔ l = m ∧ (u.receiver.sample rxd).2 = some .lineBreak := by
  cases handed : (u.receiver.sample rxd).2 with
  | none => simp [linkEvents, mem_due, handed]
  | some e => cases e <;> simp [linkEvents, mem_due, handed, RxEvent.command]

end

/-- Serving a frame is no event of a line or a timer. -/
theorem not_mem_serveEvents {s : State} {c : Instr} (notBad : c ≠ .badKindFrame) (notKind : ∀ k : Kind, c ≠ k.command) :
    c ∉ s.serveEvents := by
  intro mem
  rcases mem_serveEvents mem with bad | ⟨k, kind⟩
  · exact notBad bad
  · exact notKind k kind

theorem Link.mem_all (l : Link) : l ∈ Link.all := by cases l <;> decide

section
variable {s t : State}

theorem gapExpiry_mem_dueEvents {l : Link} : .gapExpiry l ∈ s.dueEvents t ↔ (t.liuOf l).gapDone = true := by
  have serve : Instr.gapExpiry l ∉ t.serveEvents := not_mem_serveEvents (by simp) fun k => by cases k <;> simp [Kind.command]
  simp [State.dueEvents, State.racingEvents, State.pinEvents, sensorEvents, mem_due, serve, gapExpiry_mem_linkEvents,
    Link.mem_all]

theorem linkBreak_mem_dueEvents {l : Link} :
    .linkBreak l ∈ s.dueEvents t ↔ ((s.liuOf l).receiver.sample (t.pins.rxd.get l)).2 = some .lineBreak := by
  have serve : Instr.linkBreak l ∉ t.serveEvents := not_mem_serveEvents (by simp) fun k => by cases k <;> simp [Kind.command]
  simp [State.dueEvents, State.racingEvents, State.pinEvents, sensorEvents, mem_due, serve, linkBreak_mem_linkEvents,
    Link.mem_all]

/-- An event of the whole part: no link brings it. -/
theorem mem_dueEvents_of_clock {c : Instr} (notBad : c ≠ .badKindFrame) (notKind : ∀ k : Kind, c ≠ k.command)
    (notGap : ∀ l, c ≠ .gapExpiry l) (notEnd : ∀ l, c ≠ .frameTransmitEnd l) (notReset : ∀ l, c ≠ .resetBreakEnd l)
    (notReceived : ∀ l (e : RxEvent), c ≠ e.command l) :
    c ∈ s.dueEvents t ↔ c ∈
      due (!t.pins.resetN) .reset ++ due (t.act.filterDue false) .toffNFalling ++ due (t.act.filterDue true) .toffNRising ++
      sensorEvents .front (t.asuOf .front) t.pins.sensor.front ++ sensorEvents .rear (t.asuOf .rear) t.pins.sensor.rear ++
      due ((t.asuOf .front).historyExpired t.timeBase) (.edgeHistoryExpiry .front) ++
      due ((t.asuOf .rear).historyExpired t.timeBase) (.edgeHistoryExpiry .rear) ++
      due t.ale.completionDue .passCompletion ++ due (t.ptm.level != t.pins.syncIn) (.syncInEdge t.pins.syncIn) ++
      due (decide (t.ptm.oneShot = some t.timeBase)) .oneShotExpiry ++
      due (decide (t.ptm.timer = some t.timeBase)) .internalTimerExpiry ++ t.pinEvents := by
  refine mem_dueEvents ⟨notBad, notKind⟩ fun l mem => ?_
  rcases mem_linkEvents mem with ⟨e, -⟩ | ⟨e, -⟩ | ⟨e, -⟩ | ⟨r, -, e⟩
  · exact notGap l e
  · exact notEnd l e
  · exact notReset l e
  · exact notReceived l r e

theorem RxEvent.command_ne {c : Instr} (h1 : ∀ l, c ≠ .startBitConfirmed l) (h2 : ∀ l d m b, c ≠ .byteTaken l d m b)
    (h3 : ∀ l, c ≠ .linkBreak l) (l : Link) (e : RxEvent) : c ≠ e.command l := by
  cases e
  · exact h1 l
  · exact h2 l _ _ _
  · exact h3 l

theorem toffNFalling_mem_dueEvents : .toffNFalling ∈ s.dueEvents t ↔ t.act.filterDue false = true := by
  rw [mem_dueEvents_of_clock (by simp) (fun k => by cases k <;> simp [Kind.command]) (by simp) (by simp) (by simp)
    (RxEvent.command_ne (by simp) (by simp) (by simp))]
  simp [sensorEvents, mem_due, State.pinEvents]

theorem toffNRising_mem_dueEvents : .toffNRising ∈ s.dueEvents t ↔ t.act.filterDue true = true := by
  rw [mem_dueEvents_of_clock (by simp) (fun k => by cases k <;> simp [Kind.command]) (by simp) (by simp) (by simp)
    (RxEvent.command_ne (by simp) (by simp) (by simp))]
  simp [sensorEvents, mem_due, State.pinEvents]

theorem internalTimerExpiry_mem_dueEvents : .internalTimerExpiry ∈ s.dueEvents t ↔ t.ptm.timer = some t.timeBase := by
  rw [mem_dueEvents_of_clock (by simp) (fun k => by cases k <;> simp [Kind.command]) (by simp) (by simp) (by simp)
    (RxEvent.command_ne (by simp) (by simp) (by simp))]
  simp [sensorEvents, mem_due, State.pinEvents]

theorem oneShotExpiry_mem_dueEvents : .oneShotExpiry ∈ s.dueEvents t ↔ t.ptm.oneShot = some t.timeBase := by
  rw [mem_dueEvents_of_clock (by simp) (fun k => by cases k <;> simp [Kind.command]) (by simp) (by simp) (by simp)
    (RxEvent.command_ne (by simp) (by simp) (by simp))]
  simp [sensorEvents, mem_due, State.pinEvents]

theorem passCompletion_mem_dueEvents : .passCompletion ∈ s.dueEvents t ↔ ∃ x, t.ale.pass = some x ∧ x.latency ≤ x.clocks := by
  rw [mem_dueEvents_of_clock (by simp) (fun k => by cases k <;> simp [Kind.command]) (by simp) (by simp) (by simp)
    (RxEvent.command_ne (by simp) (by simp) (by simp))]
  cases flight : t.ale.pass <;> simp [sensorEvents, mem_due, State.pinEvents, Ale.completionDue, flight]

end

/-- A change of the TOFF_N pin is the last event of its clock period (R130). -/
theorem State.getLast?_of_toffNPinChange {s : State} {level : Bool}
    (mem : .toffNPinChange level ∈ (s.advance.queued (s.racingEvents s.advance) s.advance.pinEvents).pending) :
    (s.advance.queued (s.racingEvents s.advance) s.advance.pinEvents).pending.getLast? = some (.toffNPinChange level) := by
  have pin : .toffNPinChange level ∈ s.advance.pinEvents := by
    rcases List.mem_append.1 mem with racing | last
    · exact absurd (mem_scatter.1 racing) (s.toffNPinChange_not_racing s.advance level)
    · exact last
  obtain ⟨change, e⟩ := mem_due.1 pin
  have last : s.advance.pinEvents = [.toffNPinChange level] := by
    rw [State.pinEvents, change, ← e]
    rfl
  simp [State.queued, last]

theorem State.queued_asuOf (s : State) (es last : List Instr) (a : Axle) : (s.queued es last).asuOf a = s.asuOf a := rfl

theorem State.queued_liuOf (s : State) (es last : List Instr) (l : Link) : (s.queued es last).liuOf l = s.liuOf l := rfl

theorem State.tick_of_run {s : State} (run : s.inReset = false) :
    s.tick = s.advance.queued (s.racingEvents s.advance) s.advance.pinEvents := by
  simp [State.tick, run]

/-- Settles O2. -/
theorem idleStepIsOneClockPeriod : Obligations.IdleStepIsOneClockPeriod := by
  intro s empty within
  refine ⟨s.tick, by simp [step, empty], fun held => ?_, fun run => ?_⟩
  · rw [State.tick, if_pos held]
    rfl
  · have last := fun level => s.getLast?_of_toffNPinChange (level := level)
    have perm : s.tick.pending.Perm (s.dueEvents s.tick) := by
      rw [s.tick_of_run run, State.dueEvents_queued]
      exact State.queued_pending _ _ _
    have act : s.tick.act = { s.act with held := min (s.act.held + 1) 200 } := by
      rw [s.tick_of_run run, State.queued_act, State.advance_act]
      rfl
    have ale : s.tick.ale = { s.ale with pass := s.ale.pass.map fun p => { p with clocks := p.clocks + 1 } } := by
      rw [s.tick_of_run run, State.queued_ale, State.advance_ale]
    have links (l : Link) : s.tick.liuOf l = (s.liuOf l).advance (s.pins.rxd.get l) := by
      rw [s.tick_of_run run, State.queued_liuOf, State.advance_liuOf]
    have tx (l : Link) : (s.tick.liuOf l).tx = (s.liuOf l).tx.advance := by rw [links]; rfl
    have filter (level : Bool) : s.tick.act.filterDue level = true ↔
        s.act.pinLevel = level ∧ s.act.filtered = !level ∧ 199 ≤ s.act.held := by
      rw [Act.filterDue_iff, act]
      exact and_congr_right fun _ => and_congr_right fun _ => by dsimp only; omega
    have pins : s.tick.pins = s.pins := by simp [s.tick_of_run run]
    obtain ⟨time, clock⟩ := s.advance_time within
    rw [← s.tick_of_run run] at last
    simp only [perm.mem_iff, toffNFalling_mem_dueEvents, toffNRising_mem_dueEvents, internalTimerExpiry_mem_dueEvents,
      oneShotExpiry_mem_dueEvents, passCompletion_mem_dueEvents, gapExpiry_mem_dueEvents, linkBreak_mem_dueEvents,
      Liu.gapDone_iff, filter]
    simp only [perm.mem_iff] at last
    refine ⟨by rw [s.tick_of_run run]; exact time, by rw [s.tick_of_run run]; exact clock, perm, last, Iff.rfl, Iff.rfl,
      trivial, trivial, trivial, fun _ => trivial, pins, ?_, ?_, ?_, ?_, ?_, ?_, ?_, ?_, act, ?_, ?_, fun a => ?_, links,
      fun l f n sending => ?_, fun l n sending => ?_, fun l idle => ?_, fun l => ?_⟩
    · simpa [s.tick_of_run run] using run
    · simp [s.tick_of_run run]
    · simp [s.tick_of_run run]
    · simp [s.tick_of_run run]
    · simp [s.tick_of_run run]
    · rw [ale]
    · rw [ale]
    · rw [ale]
    · simp [s.tick_of_run run]
    · simp [s.tick_of_run run]
    · rw [s.tick_of_run run, State.queued_asuOf, State.advance_asuOf]
    · rw [tx, sending]
      rfl
    · rw [tx, sending]
      rfl
    · rw [tx, idle]
      rfl
    · rw [pins]

end Sys2Proof.Machine
end

section
/-! SUPPORT. The bit receiver and the line form of a byte: the receiver over a run of levels, bit by bit, and the
levels a transmitter drives (R164, R166). -/

namespace Sys2Proof.Machine

/-! ### Runs of levels -/

theorem Receiver.resolve_append (r : Receiver) (xs ys : List Bool) :
    r.resolve (xs ++ ys) =
      (((r.resolve xs).1.resolve ys).1, (r.resolve xs).2 ++ ((r.resolve xs).1.resolve ys).2) := by
  induction xs generalizing r with
  | nil => simp [Receiver.resolve]
  | cons b bs ih => simp [Receiver.resolve, ih]

/-- A run whose first part is known goes on from where that left the receiver. -/
theorem Receiver.resolve_append_of_eq {r v : Receiver} {xs : List Bool} {es : List RxEvent} (h : r.resolve xs = (v, es))
    (ys : List Bool) : r.resolve (xs ++ ys) = ((v.resolve ys).1, es ++ (v.resolve ys).2) := by
  rw [Receiver.resolve_append, h]

theorem Receiver.resolve_cons (r : Receiver) (b : Bool) (bs : List Bool) :
    r.resolve (b :: bs) = (((r.sample b).1.resolve bs).1, (r.sample b).2.toList ++ ((r.sample b).1.resolve bs).2) := rfl

theorem Receiver.resolve_waiting (n : Nat) : Receiver.resolve .waiting (List.replicate n true) = (.waiting, []) := by
  induction n with
  | zero => rfl
  | succ n ih =>
    rw [List.replicate_succ, Receiver.resolve_cons]
    simp [Receiver.sample, ih]

theorem Receiver.resolve_awaitHigh (n : Nat) : Receiver.resolve .awaitHigh (List.replicate n false) = (.awaitHigh, []) := by
  induction n with
  | zero => rfl
  | succ n ih =>
    rw [List.replicate_succ, Receiver.resolve_cons]
    simp [Receiver.sample, ih]

/-- A candidate start bit reads no level before its middle (R164). -/
theorem Receiver.resolve_candidate {n : Nat} {low : Option Nat} {levels : List Bool} (before : n + levels.length < 20) :
    Receiver.resolve (.candidate n low) levels = (.candidate (n + levels.length) (levels.foldl lowAfter low), []) := by
  induction levels generalizing n low with
  | nil => rfl
  | cons b bs ih =>
    simp only [List.length_cons] at before ⊢
    have early : ¬ n + 1 = 20 := by omega
    have step : Receiver.sample (.candidate n low) b = (.candidate (n + 1) (lowAfter low b), none) := if_neg early
    rw [Receiver.resolve_cons, step, ih (by omega), Nat.add_right_comm, Nat.add_assoc n]
    rfl

/-- Inside a byte no level is read before the middle of the next bit (R164). -/
theorem Receiver.resolve_inByte {n : Nat} {low : Option Nat} {samples levels : List Bool}
    (before : n + levels.length < 60 + samples.length * 40) :
    Receiver.resolve (.inByte n low samples) levels = (.inByte (n + levels.length) (levels.foldl lowAfter low) samples, []) := by
  induction levels generalizing n low with
  | nil => rfl
  | cons b bs ih =>
    simp only [List.length_cons] at before ⊢
    have early : ¬ n + 1 = 60 + samples.length * 40 := by omega
    have step : Receiver.sample (.inByte n low samples) b = (.inByte (n + 1) (lowAfter low b) samples, none) := if_neg early
    rw [Receiver.resolve_cons, step, ih (by omega), Nat.add_right_comm, Nat.add_assoc n]
    rfl

/-! ### Bits -/

/-- The 40 levels of each bit of a list. -/
def bitLevels (bits : List Bool) : List Bool := bits.flatMap (List.replicate 40)

theorem bitLevels_append (xs ys : List Bool) : bitLevels (xs ++ ys) = bitLevels xs ++ bitLevels ys := List.flatMap_append

theorem bitLevels_replicate (n : Nat) (b : Bool) : bitLevels (List.replicate n b) = List.replicate (40 * n) b := by
  induction n with
  | zero => rfl
  | succ n ih =>
    rw [List.replicate_succ, Nat.mul_succ, Nat.add_comm, List.replicate_add, ← ih]
    rfl

/-- A bit is read in its middle (R164). -/
theorem Receiver.resolve_bit {n : Nat} {low : Option Nat} {samples : List Bool} (b : Bool)
    (start : n + 1 = 40 * (samples.length + 1)) (room : samples.length < 9) :
    Receiver.resolve (.inByte n low samples) (List.replicate 40 b) =
      (.inByte (n + 40) ((List.replicate 40 b).foldl lowAfter low) (samples ++ [b]), []) := by
  have split : List.replicate 40 b = List.replicate 20 b ++ b :: List.replicate 19 b := rfl
  have first := Receiver.resolve_inByte (n := n) (low := low) (samples := samples) (levels := List.replicate 20 b)
    (by simp; omega)
  have middle : Receiver.sample (.inByte (n + 20) ((List.replicate 20 b).foldl lowAfter low) samples) b =
      (.inByte (n + 21) (lowAfter ((List.replicate 20 b).foldl lowAfter low) b) (samples ++ [b]), none) := by
    refine (if_pos (show n + 20 + 1 = 60 + samples.length * 40 by omega)).trans ?_
    exact if_pos room
  have last := Receiver.resolve_inByte (n := n + 21) (low := lowAfter ((List.replicate 20 b).foldl lowAfter low) b)
    (samples := samples ++ [b]) (levels := List.replicate 19 b) (by simp; omega)
  simp only [List.length_replicate] at first last
  rw [split, Receiver.resolve_append_of_eq first, Receiver.resolve_cons, middle, last, List.foldl_append]
  rfl

/-- The bits that follow are read in turn, up to the marker (R164). -/
theorem Receiver.resolve_bits {n : Nat} {low : Option Nat} {samples : List Bool} (bits : List Bool)
    (start : n + 1 = 40 * (samples.length + 1)) (room : samples.length + bits.length ≤ 9) :
    Receiver.resolve (.inByte n low samples) (bitLevels bits) =
      (.inByte (n + 40 * bits.length) ((bitLevels bits).foldl lowAfter low) (samples ++ bits), []) := by
  induction bits generalizing n low samples with
  | nil => simp [bitLevels, Receiver.resolve]
  | cons b bs ih =>
    simp only [List.length_cons] at room
    have levels : bitLevels (b :: bs) = List.replicate 40 b ++ bitLevels bs := rfl
    have rest := ih (n := n + 40) (low := (List.replicate 40 b).foldl lowAfter low) (samples := samples ++ [b])
      (by simp; omega) (by simp; omega)
    rw [levels, Receiver.resolve_append_of_eq (Receiver.resolve_bit b start (by omega)), rest, List.foldl_append]
    have length : n + 40 + 40 * bs.length = n + 40 * (bs.length + 1) := by omega
    simp [length]

/-- The start bit, confirmed in its middle (R164). -/
theorem Receiver.resolve_startBit : Receiver.resolve .waiting (List.replicate 40 false) = (.inByte 39 (some 39) [], [.startBit]) := by
  decide

/-- A start bit and the bits after it (R164). -/
theorem Receiver.resolve_word (bits : List Bool) (room : bits.length ≤ 9) :
    Receiver.resolve .waiting (List.replicate 40 false ++ bitLevels bits) =
      (.inByte (39 + 40 * bits.length) ((bitLevels bits).foldl lowAfter (some 39)) bits, [.startBit]) := by
  rw [Receiver.resolve_append_of_eq Receiver.resolve_startBit,
    Receiver.resolve_bits bits (samples := []) rfl (by simpa using room)]
  rfl

/-- A high stop bit ends the byte (R164). -/
theorem Receiver.resolve_stopBit {low : Option Nat} {samples : List Bool} (full : samples.length = 9) :
    Receiver.resolve (.inByte 399 low samples) (List.replicate 40 true) = (.waiting, [byteOfSamples samples false]) := by
  have split : List.replicate 40 true = List.replicate 20 true ++ true :: List.replicate 19 true := rfl
  have first := Receiver.resolve_inByte (n := 399) (low := low) (samples := samples) (levels := List.replicate 20 true)
    (by simp; omega)
  have middle (m : Option Nat) : Receiver.sample (.inByte 419 m samples) true = (.waiting, some (byteOfSamples samples false)) := by
    refine (if_pos (show 419 + 1 = 60 + samples.length * 40 by omega)).trans ?_
    exact (if_neg (by omega)).trans (if_pos rfl)
  simp only [List.length_replicate] at first
  rw [split, Receiver.resolve_append_of_eq first, Receiver.resolve_cons, middle, Receiver.resolve_waiting]
  rfl

/-! ### A long low level -/

theorem foldl_lowAfter_some (k m : Nat) : (List.replicate m false).foldl lowAfter (some k) = some (k + m) := by
  induction m generalizing k with
  | zero => rfl
  | succ m ih =>
    rw [List.replicate_succ, List.foldl_cons]
    refine (ih (k + 1)).trans ?_
    rw [Nat.add_right_comm, Nat.add_assoc]

theorem foldl_lowAfter_none (m : Nat) : (List.replicate (m + 1) false).foldl lowAfter none = some m := by
  rw [List.replicate_succ, List.foldl_cons]
  refine (foldl_lowAfter_some 0 m).trans ?_
  rw [Nat.zero_add]

/-- A low stop bit: the byte waits for the line to rise, or for a break (R166). -/
theorem Receiver.resolve_stopLow {low : Option Nat} {samples : List Bool} (full : samples.length = 9) :
    Receiver.resolve (.inByte 399 low samples) (List.replicate 21 false) =
      (.stopLow (((List.replicate 21 false).foldl lowAfter low).getD 0) samples, []) := by
  have split : List.replicate 21 false = List.replicate 20 false ++ [false] := rfl
  have first := Receiver.resolve_inByte (n := 399) (low := low) (samples := samples) (levels := List.replicate 20 false)
    (by simp; omega)
  have middle (m : Option Nat) : Receiver.sample (.inByte 419 m samples) false =
      (.stopLow ((lowAfter m false).getD 0) samples, none) := by
    refine (if_pos (show 419 + 1 = 60 + samples.length * 40 by omega)).trans ?_
    exact (if_neg (by omega)).trans (if_neg (by decide))
  simp only [List.length_replicate] at first
  rw [split, Receiver.resolve_append_of_eq first, Receiver.resolve_cons, middle, List.foldl_append]
  rfl

section
variable {k : Nat} {samples : List Bool}

theorem Receiver.resolve_low (m : Nat) (short : k + m < 880) :
    Receiver.resolve (.stopLow k samples) (List.replicate m false) = (.stopLow (k + m) samples, []) := by
  induction m generalizing k with
  | zero => rfl
  | succ m ih =>
    have step : Receiver.sample (.stopLow k samples) false = (.stopLow (k + 1) samples, none) :=
      (if_neg (show ¬ 880 ≤ k + 1 by omega)).trans (if_neg (by decide))
    rw [List.replicate_succ, Receiver.resolve_cons, step, ih (by omega), Nat.add_right_comm, Nat.add_assoc]
    rfl

/-- The line rises before 22 µs: a byte with a stop-bit error (R166). -/
theorem Receiver.resolve_rise (m : Nat) (short : k + m + 1 < 880) :
    Receiver.resolve (.stopLow k samples) (List.replicate m false ++ [true]) = (.waiting, [byteOfSamples samples true]) := by
  have step : Receiver.sample (.stopLow (k + m) samples) true = (.waiting, some (byteOfSamples samples true)) :=
    (if_neg (show ¬ 880 ≤ k + m + 1 by omega)).trans (if_pos rfl)
  rw [Receiver.resolve_append_of_eq (Receiver.resolve_low m (by omega)), Receiver.resolve_cons, step]
  rfl

/-- The line rises at 22 µs: a break (R166). -/
theorem Receiver.resolve_break_rise (m : Nat) (reached : k + m + 1 = 880) :
    Receiver.resolve (.stopLow k samples) (List.replicate m false ++ [true]) = (.waiting, [.lineBreak]) := by
  have step : Receiver.sample (.stopLow (k + m) samples) true = (.waiting, some .lineBreak) :=
    if_pos (show 880 ≤ k + m + 1 by omega)
  rw [Receiver.resolve_append_of_eq (Receiver.resolve_low m (by omega)), Receiver.resolve_cons, step]
  rfl

/-- The line stays low beyond 22 µs: one break, however long (R166). -/
theorem Receiver.resolve_break_stays (m n : Nat) (reached : k + m + 1 = 880) :
    Receiver.resolve (.stopLow k samples) (List.replicate (m + 1 + n) false) = (.awaitHigh, [.lineBreak]) := by
  have split : List.replicate (m + 1 + n) false = List.replicate m false ++ false :: List.replicate n false := by
    rw [← List.replicate_succ, List.replicate_append_replicate]
    congr 1
    omega
  have step : Receiver.sample (.stopLow (k + m) samples) false = (.awaitHigh, some .lineBreak) :=
    if_pos (show 880 ≤ k + m + 1 by omega)
  rw [split, Receiver.resolve_append_of_eq (Receiver.resolve_low m (by omega)), Receiver.resolve_cons, step,
    Receiver.resolve_awaitHigh]
  rfl

end

/-- A run of levels after which the line, low for `k` periods, has spoilt the stop bit: what follows decides
between a byte with a stop-bit error and a break (R166). -/
def SpoilsStop (before : List Bool) (k : Nat) (samples : List Bool) : Prop :=
  Receiver.resolve .waiting before = (.stopLow k samples, [.startBit])

section
variable {before : List Bool} {k : Nat} {samples : List Bool} (h : SpoilsStop before k samples)
include h

theorem SpoilsStop.rise (m : Nat) (short : k + m + 1 < 880) :
    Receiver.resolve .waiting (before ++ (List.replicate m false ++ [true])) =
      (.waiting, [.startBit, byteOfSamples samples true]) := by
  rw [Receiver.resolve_append_of_eq h, Receiver.resolve_rise m short]
  rfl

theorem SpoilsStop.break_rise (m : Nat) (reached : k + m + 1 = 880) :
    Receiver.resolve .waiting (before ++ (List.replicate m false ++ [true])) = (.waiting, [.startBit, .lineBreak]) := by
  rw [Receiver.resolve_append_of_eq h, Receiver.resolve_break_rise m reached]
  rfl

theorem SpoilsStop.break_stays (m n : Nat) (reached : k + m + 1 = 880) :
    Receiver.resolve .waiting (before ++ List.replicate (m + 1 + n) false) = (.awaitHigh, [.startBit, .lineBreak]) := by
  rw [Receiver.resolve_append_of_eq h, Receiver.resolve_break_stays m n reached]
  rfl

end

/-- The start bit, some bits, and the low level up to the middle of the stop bit (R166). -/
theorem spoilsStop_of_bits {bits : List Bool} {q : Nat} (full : bits.length + q = 9) {k : Nat}
    (low : ((List.replicate (40 * q + 21) false).foldl lowAfter ((bitLevels bits).foldl lowAfter (some 39))).getD 0 = k) :
    SpoilsStop (List.replicate 40 false ++ bitLevels bits ++ List.replicate (40 * q + 21) false) k
      (bits ++ List.replicate q false) := by
  have word := Receiver.resolve_word (bits ++ List.replicate q false) (by simp; omega)
  have length : 39 + 40 * (bits ++ List.replicate q false).length = 399 := by simp; omega
  rw [length, bitLevels_append, bitLevels_replicate, List.foldl_append] at word
  rw [List.replicate_add, List.foldl_append] at low
  have levels : List.replicate 40 false ++ bitLevels bits ++ List.replicate (40 * q + 21) false =
      List.replicate 40 false ++ (bitLevels bits ++ List.replicate (40 * q) false) ++ List.replicate 21 false := by
    rw [List.replicate_add]
    simp only [List.append_assoc]
  unfold SpoilsStop
  rw [levels, Receiver.resolve_append_of_eq word, Receiver.resolve_stopLow (by simp; omega), low]
  rfl

/-! ### The line form of a byte -/

/-- A function of the quotient is constant over each divisor's run. -/
theorem map_div_range (f : Nat → Bool) (count : Nat) :
    (List.range (40 * count)).map (fun n => f (n / 40)) = bitLevels ((List.range count).map f) := by
  induction count with
  | zero => rfl
  | succ count ih =>
    have run : (List.range 40).map (fun n => f ((40 * count + n) / 40)) = List.replicate 40 (f count) := by
      refine List.eq_replicate_iff.2 ⟨by simp, fun b hb => ?_⟩
      obtain ⟨n, hn, rfl⟩ := List.mem_map.1 hb
      rw [List.mem_range] at hn
      congr 1
      omega
    have next : bitLevels ((List.range (count + 1)).map f) = bitLevels ((List.range count).map f) ++ List.replicate 40 (f count) := by
      rw [List.range_succ, List.map_append, bitLevels_append]
      exact congrArg _ (List.append_nil _)
    rw [Nat.mul_succ, List.range_add, List.map_append, ih, List.map_map, next]
    exact congrArg _ run

section
variable (data : Byte) (marker : Bool)

/-- The nine bits between the start bit and the stop bit: the data, least significant first, and the marker. -/
def lineBits (data : Byte) (marker : Bool) (count : Nat) : List Bool :=
  (List.range count).map fun i => lineBit data marker (i + 1)

theorem byteLevels_take (j : Nat) (h : j ≤ 10) :
    (byteLevels data marker).take (40 * (j + 1)) = List.replicate 40 false ++ bitLevels (lineBits data marker j) := by
  have levels : byteLevels data marker = (List.range 440).map fun n => lineBit data marker (n / 40) := rfl
  rw [levels, ← List.map_take, List.take_range, Nat.min_eq_left (by omega), map_div_range, List.range_succ_eq_map, List.map_cons,
    List.map_map]
  rfl

theorem byteLevels_eq : byteLevels data marker =
    List.replicate 40 false ++ bitLevels (lineBits data marker 9) ++ List.replicate 40 true := by
  have whole : (byteLevels data marker).take (40 * (10 + 1)) = byteLevels data marker :=
    List.take_of_length_le (by simp [byteLevels, byteClocks, bitClocks, clocksPerMicro])
  have bits : lineBits data marker 10 = lineBits data marker 9 ++ [true] := by
    simp [lineBits, List.range_succ, lineBit]
  rw [← whole, byteLevels_take data marker 10 le_rfl, bits, bitLevels_append, List.append_assoc]
  rfl

/-- The nine samples of a byte spell its data and its marker (R164). -/
theorem byteOfSamples_lineBits (err : Bool) : byteOfSamples (lineBits data marker 9) err = .byte data marker err := by
  have marked : (lineBits data marker 9).getD 8 false = marker := rfl
  have spelt : flagByte ((lineBits data marker 9).take 8) = data := by
    refine BitVec.eq_of_getLsbD_eq fun i hi => ?_
    rw [flagByte_getLsbD _ hi]
    interval_cases i <;> rfl
  rw [byteOfSamples, marked, spelt]

end

/-- A low level from a falling edge within the byte up to the middle of the stop bit: the edge after its last high
bit begins it (R166). -/
theorem spoilsStop_of_lastHigh {data : Byte} {marker : Bool} {j : Nat} (low : 1 ≤ j) (high : j ≤ 9)
    (last : lineBit data marker j = true) (zero : ∀ i, j < i → i ≤ 9 → lineBit data marker i = false) :
    SpoilsStop ((byteLevels data marker).take (40 * (j + 1)) ++ List.replicate (40 * (9 - j) + 21) false) (40 * (9 - j) + 20)
      (lineBits data marker 9) := by
  have samples : lineBits data marker 9 = lineBits data marker j ++ List.replicate (9 - j) false := by
    have split : (List.range 9) = List.range j ++ (List.range (9 - j)).map (j + ·) := by
      rw [← List.range_add]
      congr 1
      omega
    rw [lineBits, split, List.map_append, List.map_map]
    refine congrArg _ (List.eq_replicate_iff.2 ⟨by simp, fun b hb => ?_⟩)
    obtain ⟨n, hn, rfl⟩ := List.mem_map.1 hb
    rw [List.mem_range] at hn
    exact zero (j + n + 1) (by omega) (by omega)
  rw [byteLevels_take data marker j (by omega), samples]
  refine spoilsStop_of_bits (by simp [lineBits]; omega) ?_
  obtain ⟨i, rfl⟩ := Nat.exists_eq_add_of_le' low
  have bits : lineBits data marker (i + 1) = lineBits data marker i ++ [true] := by
    simp [lineBits, List.range_succ, last]
  have highEnd : (bitLevels (lineBits data marker (i + 1))).foldl lowAfter (some 39) = none := by
    rw [bits, bitLevels_append, List.foldl_append]
    rfl
  rw [highEnd, foldl_lowAfter_none]
  rfl

/-- A low level from the start bit's edge up to the middle of the stop bit (R166). -/
theorem spoilsStop_of_low : SpoilsStop (List.replicate 421 false) 420 (List.replicate 9 false) := by
  have noBits : bitLevels [] = [] := rfl
  have levels : List.replicate 40 false ++ bitLevels [] ++ List.replicate (40 * 9 + 21) false = List.replicate 421 false := by
    rw [noBits, List.append_nil, List.replicate_append_replicate]
  rw [← levels]
  refine spoilsStop_of_bits (bits := []) (q := 9) rfl ?_
  rw [noBits, List.foldl_nil, foldl_lowAfter_some]
  rfl

/-- A line that rises before the middle of the start bit is no start bit (R164). -/
theorem Receiver.resolve_glitch {n : Nat} (h : n < 20) :
    Receiver.resolve .waiting (List.replicate (n + 1) false ++ List.replicate 20 true) = (.waiting, []) := by
  have split : List.replicate (n + 1) false ++ List.replicate 20 true =
      false :: ((List.replicate n false ++ List.replicate (19 - n) true) ++ true :: List.replicate n true) := by
    have : List.replicate 20 true = List.replicate (19 - n) true ++ true :: List.replicate n true := by
      rw [← List.replicate_succ, List.replicate_append_replicate]
      congr 1
      omega
    rw [this, List.replicate_succ, List.cons_append, List.append_assoc]
  have length : (List.replicate n false ++ List.replicate (19 - n) true).length = 19 := by simp; omega
  have candidate := Receiver.resolve_candidate (n := 0) (low := some 0)
    (levels := List.replicate n false ++ List.replicate (19 - n) true) (by omega)
  have edge : Receiver.sample .waiting false = (.candidate 0 (some 0), none) := rfl
  have middle (m : Option Nat) : Receiver.sample (.candidate 19 m) true = (.waiting, none) := rfl
  rw [length] at candidate
  rw [split, Receiver.resolve_cons, edge, Receiver.resolve_append_of_eq candidate, Receiver.resolve_cons, middle,
    Receiver.resolve_waiting]
  rfl

/-- Settles O12. -/
theorem receiverReadsWhatIsSent : Obligations.ReceiverReadsWhatIsSent := by
  have zeros : byteOfSamples (List.replicate 9 false) true = .byte 0 false true := by decide
  refine ⟨fun data marker => ?_, fun n => ?_, ?_, fun n above below => ?_, fun data marker j low high last zero => ?_,
    fun f i h => ?_, fun f n h => ?_, fun n h => Receiver.resolve_glitch h⟩
  · have word := Receiver.resolve_word (lineBits data marker 9) (by simp [lineBits])
    have length : 39 + 40 * (lineBits data marker 9).length = 399 := by simp [lineBits]
    rw [length] at word
    rw [byteLevels_eq, Receiver.resolve_append_of_eq word, Receiver.resolve_stopBit (by simp [lineBits]),
      byteOfSamples_lineBits]
    rfl
  · have stays := spoilsStop_of_low.break_stays 459 n rfl
    rwa [List.replicate_append_replicate, show 421 + (459 + 1 + n) = 881 + n by omega] at stays
  · have rise := spoilsStop_of_low.break_rise 459 rfl
    rwa [← List.append_assoc, List.replicate_append_replicate] at rise
  · have rise := spoilsStop_of_low.rise (n - 421) (by omega)
    rwa [← List.append_assoc, List.replicate_append_replicate, show 421 + (n - 421) = n by omega, zeros] at rise
  · intro before
    have spoils := spoilsStop_of_lastHigh low high last zero
    have join (m : Nat) (rest : List Bool) : before ++ List.replicate (40 * (9 - j) + 21) false ++
        (List.replicate m false ++ rest) = before ++ (List.replicate (40 * (9 - j) + 21 + m) false ++ rest) := by
      rw [List.append_assoc, ← List.append_assoc (List.replicate _ false), List.replicate_append_replicate]
    refine ⟨fun n above below => ?_, ?_, fun n => ?_⟩
    · have rise := spoils.rise (n - (40 * (9 - j) + 21)) (by omega)
      rwa [join, byteOfSamples_lineBits, show 40 * (9 - j) + 21 + (n - (40 * (9 - j) + 21)) = n by omega] at rise
    · have rise := spoils.break_rise (880 - (40 * (9 - j) + 21)) (by omega)
      rwa [join, show 40 * (9 - j) + 21 + (880 - (40 * (9 - j) + 21)) = 880 by omega] at rise
    · have stays := spoils.break_stays (880 - (40 * (9 - j) + 21)) n (by omega)
      rwa [List.append_assoc, List.replicate_append_replicate,
        show 40 * (9 - j) + 21 + (880 - (40 * (9 - j) + 21) + 1 + n) = 881 + n by omega] at stays
  · refine List.map_congr_left fun n hn => ?_
    rw [List.mem_range] at hn
    have quotient : (440 * i + n) / 440 = i := by omega
    have remainder : (440 * i + n) % 440 = n := by omega
    have ends : ¬ f.bytes.length * 440 ≤ 440 * i + n := by omega
    have level : (Transmitter.sending f (440 * i + n)).level = (decide (f.bytes.length * 440 ≤ 440 * i + n) ||
        lineBit (f.bytes.getD ((440 * i + n) / 440) 0) ((440 * i + n) / 440 = 0) ((440 * i + n) % 440 / 40)) :=
      Transmitter.level_sending f _
    rw [level, quotient, remainder, decide_eq_false ends, Bool.false_or, List.getD_eq_getElem _ _ h]
  · have level : (Transmitter.sending f n).level = (decide (f.bytes.length * 440 ≤ n) || _) := Transmitter.level_sending f n
    rw [level, decide_eq_true (by omega), Bool.true_or]

end Sys2Proof.Machine
end
